-- ==== Sys2Proof/Word.lean ====
section
/-! DEFINITION. The word types of the KL832 (R1): bytes of the command link, ticks of the lease clock, the sets that
travel as one byte, and the numbers that name clients, slots, outputs and channels. -/

namespace Sys2Proof

/-- One byte of the two-wire command link. -/
abbrev Byte := BitVec 8

/-- A value of the 32-bit lease clock (R72); sums of ticks are taken modulo 2³². -/
abbrev Tick := BitVec 32

/-- A set of guarded outputs, G0 in the least significant position. -/
abbrev OutputSet := BitVec 8

/-- A set of fault channels, F0 in the least significant position (the cut-by set of R28). -/
abbrev FaultSet := BitVec 4

/-- A set of the six notice kinds, laid out as R150 lays it out; positions 6 and 7 of its byte are always 0. -/
abbrev NoticeSet := BitVec 6

/-- Client number 0 to 7; client 0 is the supervisor. -/
abbrev Client := Fin 8

/-- Lease slot number 0 to 31 (R2). -/
abbrev SlotId := Fin 32

/-- Guarded output G0 to G7 (R28). -/
abbrev OutputId := Fin 8

/-- Fault channel F0 to F3 (R120). -/
abbrev FaultId := Fin 4

/-- Count channel C0 to C3 (R91). -/
abbrev CountId := Fin 4

end Sys2Proof
end

