-- ==== Sys2Proof/Config.lean ====
section
/-! DEFINITION. What is fixed for the part: capacities, ranges and default settings as the rules give them. The
spec leaves no value open, so no free value stands here. -/

namespace Sys2Proof.Config

/-- The longest term, max term and quiet period, in ticks (R3, R28, R120). -/
def maxTicks : Nat := 600000

/-- The longest wait limit and recovery delay, in ticks (R48, R120). -/
def maxWait : Nat := 60000

/-- The longest settle gap, in ticks (R28). -/
def maxGap : Nat := 5000

/-- The longest offer time, in ticks (R107). -/
def maxOfferTime : Nat := 10000

/-- The largest budget of a count bound (R3). -/
def maxBudget : Nat := 65535

/-- The wait queue holds at most 12 entries (R56). -/
def queueCapacity : Nat := 12

/-- The largest quota, the number of slots of the table (R140). -/
def maxQuota : Nat := 32

/-- The longest parameter part of a frame (R168). -/
def maxParams : Nat := 20

/-- Reset value of an output's max term (R28). -/
def defaultMaxTerm : Nat := 60000

/-- Reset value of a fault channel's filter samples (R120). -/
def defaultFilterSamples : Nat := 3

/-- Reset value of a fault channel's recovery delay (R120). -/
def defaultRecoveryDelay : Nat := 500

/-- Reset value of a fault channel's latch limit (R120). -/
def defaultLatchLimit : Nat := 3

/-- Reset value of a fault channel's quiet period (R120). -/
def defaultQuietPeriod : Nat := 10000

/-- Reset value of a client's quota: 8 for client 0, 4 for the others (R140, R149). -/
def defaultQuota (c : Client) : Nat := if c = 0 then 8 else 4

/-- The 7-bit address with AD1 and AD0 both low (R166). -/
def baseAddress : BitVec 7 := 0x5A

end Sys2Proof.Config
end

