-- ==== Sys2Proof/Syntax.lean ====
section
/-! DEFINITION. The commands of the KL832: one constructor of `Instr` for each row of spec/opcode_table.json. A row that is
a command frame carries the frame as the controller puts it on the bus; a row that is an event carries the levels the part
reads at that event and the slot, output or channel it concerns. -/

namespace Sys2Proof

/-- A command frame as a controller writes it (R168): the 7-bit address it is sent to, the frame's fields but for the
command code, which the row fixes, and the check byte. The parameter length byte is the number of parameter bytes. -/
structure Frame where
  addr   : BitVec 7
  client : Byte
  epoch  : Byte
  seq    : Byte
  params : List Byte
  check  : Byte
deriving DecidableEq, Repr

/-- What is on the bus when the link timeout is reached (R171): a write to `addr` with the data bytes sent so far, or a
read from `addr`. -/
inductive Transfer where
  | write (addr : BitVec 7) (bytes : List Byte)
  | read  (addr : BitVec 7)
deriving DecidableEq, Repr

/-- How the device reset comes about (R163): RSTN falls, or the supply leaves its operating range. -/
inductive ResetCause where
  | rstnLow
  | supplyLow
deriving DecidableEq, Repr

/-- What ends the device reset (R163): RSTN rises, or the supply enters its operating range. -/
inductive RiseCause where
  | rstnHigh
  | supplyInRange
deriving DecidableEq, Repr

/-- How the events due at the new clock value are taken (R79, R81, R122): all of them within the advance, or each by its
own row, with other commands in between where the sender wants them there. -/
inductive Delivery where
  | within
  | stepwise
deriving DecidableEq, Repr

/-- The commands and events of spec/opcode_table.json, one constructor a row, in the table's order. -/
inductive Instr where
  /-- OPEN (R143); `sen` is the level of SEN when the frame is taken (R144). -/
  | openSession (f : Frame) (sen : Bool)
  /-- CLOSE (R146). -/
  | closeSession (f : Frame)
  /-- READ_NOTICES (R153). -/
  | readNotices (f : Frame)
  /-- SET_NOTICE_MASK (R151). -/
  | setNoticeMask (f : Frame)
  /-- STATUS (R154). -/
  | status (f : Frame)
  /-- REQUEST (R48). -/
  | request (f : Frame)
  /-- RELEASE (R19). -/
  | release (f : Frame)
  /-- RENEW (R86). -/
  | renew (f : Frame)
  /-- EXTEND (R101). -/
  | extend (f : Frame)
  /-- ACK_END (R21). -/
  | ackEnd (f : Frame)
  /-- QUERY (R23). -/
  | query (f : Frame)
  /-- LIST (R25). -/
  | list (f : Frame)
  /-- OFFER (R107). -/
  | offer (f : Frame)
  /-- ACCEPT (R109). -/
  | accept (f : Frame)
  /-- DECLINE (R111). -/
  | decline (f : Frame)
  /-- WITHDRAW (R112). -/
  | withdraw (f : Frame)
  /-- READ_COUNTS (R100). -/
  | readCounts (f : Frame)
  /-- START (R157). -/
  | start (f : Frame)
  /-- HALT (R159). -/
  | halt (f : Frame)
  /-- SET_OUTPUT (R45). -/
  | setOutput (f : Frame)
  /-- SET_EXCLUSION (R46). -/
  | setExclusion (f : Frame)
  /-- SET_FAULT (R134). -/
  | setFault (f : Frame)
  /-- SET_COUNT (R98). -/
  | setCount (f : Frame)
  /-- SET_QUOTA (R149). -/
  | setQuota (f : Frame)
  /-- REVOKE (R26). -/
  | revoke (f : Frame)
  /-- RELEASE_FAULT (R132). -/
  | releaseFault (f : Frame)
  /-- FORCE_CLOSE (R147). -/
  | forceClose (f : Frame)
  /-- FAULT_STATUS (R136). -/
  | faultStatus (f : Frame)
  /-- READ_SETTINGS (R162). -/
  | readSettings (f : Frame)
  /-- UNKNOWN_COMMAND (R175, step 6); `code` is the frame's command code, which names no command. -/
  | unknownCommand (f : Frame) (code : Byte)
  /-- SELECTOR_WRITE (R172): a write to `addr` of the one byte `b`, ended by STOP or repeated START. -/
  | selectorWrite (addr : BitVec 7) (b : Byte)
  /-- FRAME_DISCARDED (R170): a write to `addr` of `bytes` that the link refuses by NACK or that ends before its check
  byte; `ended` says whether its STOP or repeated START has come too. -/
  | frameDiscarded (addr : BitVec 7) (bytes : List Byte) (ended : Bool)
  /-- LINK_TIMEOUT (R171); `onBus` is the transfer the stuck clock broke off, if there was one. -/
  | linkTimeout (onBus : Option Transfer)
  /-- DEVICE_RESET (R163). -/
  | deviceReset (cause : ResetCause)
  /-- RSTN_RISE (R163). -/
  | rstnRise (cause : RiseCause)
  /-- INTERNAL_START_END (R163); `ad1` and `ad0` are the levels of the address pins then (R166). -/
  | internalStartEnd (ad1 ad0 : Bool)
  /-- CLOCK_ADVANCE (R72); `lines` are the levels of F0 to F3 at the advance (R122). -/
  | clockAdvance (lines : Vector Bool 4) (how : Delivery)
  /-- LEASE_EXPIRY (R83): the LEASE entry of slot `i` falls due. -/
  | leaseExpiry (i : SlotId)
  /-- OFFER_TIMEOUT (R113): the OFFER entry of slot `i` falls due. -/
  | offerTimeout (i : SlotId)
  /-- WAIT_EXPIRY (R62): the WAIT entry of slot `i` falls due. -/
  | waitExpiry (i : SlotId)
  /-- SETTLE_END (R34): the SETTLE entry of output `o` falls due. -/
  | settleEnd (o : OutputId)
  /-- RECOVER_DUE (R129): the RECOVER entry of channel `ch` falls due. -/
  | recoverDue (ch : FaultId)
  /-- QUIET_DUE (R130): the QUIET entry of channel `ch` falls due. -/
  | quietDue (ch : FaultId)
  /-- FAULT_TRIP (R124): the sample of this tick makes channel `ch`'s filtered level active. -/
  | faultTrip (ch : FaultId)
  /-- FAULT_CLEAR (R127): the sample of this tick makes a TRIPPED channel's filtered level inactive. -/
  | faultClear (ch : FaultId)
  /-- LATCHED_LEVEL_CHANGE (R131): the sample of this tick changes a LATCHED channel's filtered level. -/
  | latchedLevelChange (ch : FaultId)
  /-- COUNTED_EDGE (R95): the sample that makes a counted change of channel `ch`'s filtered level. -/
  | countedEdge (ch : CountId)
  /-- COUNT_SAMPLE (R92): channel `ch` samples its line, which is at `level`. -/
  | countSample (ch : CountId) (level : Bool)
deriving DecidableEq, Repr

end Sys2Proof
end

