-- ==== Sys2Proof/Decode.lean ====
section
/-! DEFINITION. The reading of a table word as a command. spec/opcode_table.json gives no row any bits (no "fixed", empty
"fields"): a command of the KL832 is a frame on the link or an event at a pin or deadline, not a word. So no word spells a
command. The decoding of frames, byte by byte, is the receiver's, in Machine/Link.lean. -/

namespace Sys2Proof

/-- The command that a word spells by the table's bits: none, since the table gives no row any bits. -/
def decodeTableWord (_nbits _w : Nat) : Option Instr := none

end Sys2Proof
end

