-- ==== Sys2Proof/Machine/State.lean ====
section
/-! DEFINITION. Everything the spec gives the part to keep, as plain data, and its value after device reset. -/

namespace Sys2Proof.Machine

/-! ### Leases (chapter 1) -/

/-- SOLE or SHARED (R3). -/
inductive Kind where
  | shared
  | sole
deriving DecidableEq, Repr

/-- The six end reasons of R13. -/
inductive EndReason where
  | expired
  | countSpent
  | fault
  | revoked
  | halted
  | waitExpired
deriving DecidableEq, Repr

/-- The optional count bound of a lease (R3): the channel, the budget (1 to 65535) and the edges spent so far. -/
structure CountBound where
  channel : CountId
  budget  : Nat
  spent   : Nat
deriving DecidableEq, Repr

/-- The state of an occupied slot with the fields R3 gives that state and no other: the wait deadline while WAITING;
granted-at and deadline while LIVE or OFFERED; the offer while OFFERED; the end record while ENDED, with granted-at when
the lease had been granted. A FREE slot holds no lease at all (`Slot.lease = none`). -/
inductive Phase where
  | waiting (waitDeadline : Tick)
  | live    (grantedAt deadline : Tick)
  | offered (grantedAt deadline : Tick) (receiver : Client) (offerDeadline : Tick)
  | ended   (grantedAt : Option Tick) (reason : EndReason) (endedAt : Tick) (detail : Option FaultId)
deriving DecidableEq, Repr

/-- The lease record of an occupied slot (R3). -/
structure Lease where
  holder  : Client
  tag     : Byte
  outputs : OutputSet
  kind    : Kind
  term    : Nat
  count   : Option CountBound
  phase   : Phase
deriving DecidableEq, Repr

/-- One slot of the lease table (R2): its generation and, when it is occupied, its lease record. -/
structure Slot where
  generation : Byte
  lease      : Option Lease
deriving DecidableEq, Repr

/-- A handle (R7): slot and generation. -/
structure Handle where
  slot       : SlotId
  generation : Byte
deriving DecidableEq, Repr

/-! ### Outputs (chapter 2) -/

/-- OFF, ON, SETTLE or CUT (R31). -/
inductive OutState where
  | off
  | on
  | settle
  | cut
deriving DecidableEq, Repr

/-- The drive level of an output (R38). -/
inductive Drive where
  | activeHigh
  | activeLow
deriving DecidableEq, Repr

/-- An output record (R28). The holders of an output are the live leases that name it, so they are read from the lease
table (`State.holdersOf`) and not stored a second time. -/
structure Output where
  state    : OutState
  cutBy    : FaultSet
  maxTerm  : Nat
  gap      : Nat
  drive    : Drive
  partners : OutputSet
deriving DecidableEq, Repr

/-! ### Expiry queue (chapter 4) -/

/-- Kind and subject of an expiry queue entry (R74). -/
inductive Key where
  | lease   (i : SlotId)
  | offer   (i : SlotId)
  | wait    (i : SlotId)
  | settle  (o : OutputId)
  | recover (ch : FaultId)
  | quiet   (ch : FaultId)
deriving DecidableEq, Repr

/-- An expiry queue entry: a deadline, a kind and a subject (R74). -/
structure Entry where
  deadline : Tick
  key      : Key
deriving DecidableEq, Repr

/-! ### Count channels (chapter 5) -/

/-- The direction a count channel counts (R91). -/
inductive Edge where
  | rising
  | falling
  | both
deriving DecidableEq, Repr

/-- The sample interval of a count channel (R91): 1, 8, 64 or 512 µs. -/
inductive Interval where
  | us1
  | us8
  | us64
  | us512
deriving DecidableEq, Repr

/-- A count channel record (R91); levels are true for high. -/
structure CountChannel where
  enabled    : Bool
  edge       : Edge
  interval   : Interval
  lastSample : Bool
  filtered   : Bool
  total      : BitVec 24
deriving DecidableEq, Repr

/-! ### Fault channels (chapter 7) -/

/-- IDLE, TRIPPED, RECOVERING or LATCHED (R121). -/
inductive FaultState where
  | idle
  | tripped
  | recovering
  | latched
deriving DecidableEq, Repr

/-- A fault channel record (R120). `activeHigh` is true for active level HIGH; `filtered` is true for active.
`changeDue` is the MODEL's own field: the sample of the present tick is the one that changes the filtered level, and the
event it makes (R122) has not been taken yet. -/
structure FaultChannel where
  enabled       : Bool
  activeHigh    : Bool
  filterSamples : Nat
  cutSet        : OutputSet
  recoveryDelay : Nat
  latchLimit    : Nat
  quietPeriod   : Nat
  state         : FaultState
  tripCount     : Nat
  filtered      : Bool
  run           : Nat
  changeDue     : Bool
deriving DecidableEq, Repr

/-! ### Sessions and notices (chapter 8) -/

/-- The six notice kinds (R150). -/
inductive Notice where
  | ended
  | granted
  | offerIn
  | offerOut
  | fault
  | mode
deriving DecidableEq, Repr

/-- The five offer outcomes (R116). -/
inductive Outcome where
  | accepted
  | declined
  | withdrawn
  | timedOut
  | voided
deriving DecidableEq, Repr

/-- The status codes of R180 that a command's answer carries. -/
inductive Status where
  | ok
  | queued
  | notOpen
  | staleSession
  | sequenceError
  | unknownCommand
  | badLength
  | notPermitted
  | wrongMode
  | badParameter
  | staleHandle
  | wrongState
  | tooLate
  | tableFull
  | quotaExceeded
  | queueFull
  | conflict
  | outputCut
  | outputDisabled
  | selfExcluded
  | faultActive
deriving DecidableEq, Repr

/-- A response as it is kept (R173); its length byte and check byte follow from the rest. -/
structure Response where
  client  : Client
  epoch   : Byte
  seq     : Byte
  code    : Byte
  status  : Status
  results : List Byte
deriving DecidableEq, Repr

/-- What a session holds while it is OPEN (R140): the last sequence and the replay cache. -/
structure OpenPart where
  lastSeq : Byte
  cache   : Response
deriving DecidableEq, Repr

/-- A session record (R140). The session is OPEN when `opened` is present. -/
structure Session where
  opened   : Option OpenPart
  epoch    : Byte
  response : Option Response
  quota    : Nat
  notices  : NoticeSet
  mask     : NoticeSet
  outcome  : Option (Handle × Outcome)
deriving DecidableEq, Repr

/-! ### The command link (chapter 10) -/

/-- The six states of the link's receiver (R167); SELECTOR keeps the client its byte names. -/
inductive Rx where
  | idle
  | frame
  | complete
  | selector (c : Client)
  | discard
  | read
deriving DecidableEq, Repr

/-- The command link (R166 to R172): the receiver, its partial frame with the running check value, the selector, the
address latched at the end of the internal start, and whether the part is driving SDA. -/
structure Link where
  rx           : Rx
  partialFrame : List Byte
  running      : Byte
  selector     : Client
  address      : BitVec 7
  drivingSda   : Bool
deriving DecidableEq, Repr

/-! ### The part -/

/-- SETUP or RUN (R155). -/
inductive Mode where
  | setup
  | run
deriving DecidableEq, Repr

/-- Where the part stands in device reset and start-up (R163). -/
inductive Power where
  | inReset
  | starting
  | running
deriving DecidableEq, Repr

/-- The input pins as the part last read them (the pin table of 00_scope.md); true is high. `vdd` is true while the
supply is in its operating range. -/
structure Pins where
  rstn  : Bool
  vdd   : Bool
  sen   : Bool
  ad1   : Bool
  ad0   : Bool
  fault : Vector Bool 4
  count : Vector Bool 4
deriving DecidableEq, Repr

/-- The whole state of the part. `pending` is the queue of commands that are waiting, first in, first out. -/
structure State where
  power     : Power
  pins      : Pins
  mode      : Mode
  clock     : Tick
  slots     : Vector Slot 32
  outputs   : Vector Output 8
  waitQueue : List SlotId
  expiry    : List Entry
  counts    : Vector CountChannel 4
  faults    : Vector FaultChannel 4
  sessions  : Vector Session 8
  link      : Link
  gLines    : Vector Bool 8
  atnLow    : Bool
  pending   : List Instr
deriving DecidableEq, Repr

/-- The machine stops with a fault: never. The spec gives every command and event an effect in every state, so this type
has no constructor and no meaning can answer with a fault (safe). -/
inductive Fault where
deriving DecidableEq, Repr

/-- Reasons to refuse a command. -/
inductive Refusal where
  /-- Raised by a dispatch arm whose command has no meaning yet; safe, since nothing is claimed of it. No arm of this
  model raises it. -/
  | notModelled (mnemonic : String)
deriving DecidableEq, Repr

/-! ### Reset values -/

/-- A slot after device reset (R2): FREE, generation 0. -/
def Slot.reset : Slot := { generation := 0, lease := none }

/-- An output record after device reset (R28). -/
def Output.reset : Output :=
  { state := .off, cutBy := 0, maxTerm := Config.defaultMaxTerm, gap := 0, drive := .activeHigh, partners := 0 }

/-- A count channel after device reset (R91). -/
def CountChannel.reset : CountChannel :=
  { enabled := false, edge := .rising, interval := .us64, lastSample := false, filtered := false, total := 0 }

/-- A fault channel after device reset (R120). -/
def FaultChannel.reset : FaultChannel :=
  { enabled := false, activeHigh := true, filterSamples := Config.defaultFilterSamples, cutSet := 0
    recoveryDelay := Config.defaultRecoveryDelay, latchLimit := Config.defaultLatchLimit
    quietPeriod := Config.defaultQuietPeriod, state := .idle, tripCount := 0, filtered := false, run := 0
    changeDue := false }

/-- The full set of six notice kinds, 3Fh (R150). -/
def allNotices : NoticeSet := 0x3F

/-- The session record of client `c` after device reset (R140). -/
def Session.reset (c : Client) : Session :=
  { opened := none, epoch := 0, response := none, quota := Config.defaultQuota c, notices := 0, mask := allNotices
    outcome := none }

/-- The command link after device reset (R167): IDLE, no partial frame, selector 0, SDA released. The running check value
starts at FFh (R169). The address is read only at the end of the internal start; until then nothing is acknowledged, and
the value here is a DESIGN CHOICE (assumption 11). -/
def Link.reset : Link :=
  { rx := .idle, partialFrame := [], running := 0xFF, selector := 0, address := Config.baseAddress, drivingSda := false }

/-- The input pins as the model takes them at reset: RSTN low, which is the reset, the supply in range, every other line
low. Their levels come from outside the part; DESIGN CHOICE (assumption 2). -/
def Pins.reset : Pins :=
  { rstn := false, vdd := true, sen := false, ad1 := false, ad0 := false
    fault := Vector.replicate 4 false, count := Vector.replicate 4 false }

/-- Device reset (R163): every block at its reset values, the G lines low, ATN released, and no command waiting. -/
def State.reset : State :=
  { power := .inReset
    pins := Pins.reset
    mode := .setup
    clock := 0
    slots := Vector.replicate 32 Slot.reset
    outputs := Vector.replicate 8 Output.reset
    waitQueue := []
    expiry := []
    counts := Vector.replicate 4 CountChannel.reset
    faults := Vector.replicate 4 FaultChannel.reset
    sessions := Vector.ofFn Session.reset
    link := Link.reset
    gLines := Vector.replicate 8 false
    atnLow := false
    pending := [] }

end Sys2Proof.Machine
end

