-- ==== Sys2Proof/Machine/Access.lean ====
section
/-! DEFINITION. Reading and writing one record of the state: each register file has one reader and one writer, and the
views the rules derive from the lease table (holders, occupied counts, FREE slots) are computed here. -/

namespace Sys2Proof.Machine

/-- The slot numbered `i`. -/
def State.slot (s : State) (i : SlotId) : Slot := s.slots[i]

/-- Write the slot numbered `i`. -/
def State.putSlot (s : State) (i : SlotId) (x : Slot) : State := { s with slots := s.slots.set i x }

/-- The lease in slot `i`, none when the slot is FREE. -/
def State.leaseAt (s : State) (i : SlotId) : Option Lease := (s.slot i).lease

/-- Write the lease of slot `i` and keep its generation. -/
def State.putLease (s : State) (i : SlotId) (l : Option Lease) : State :=
  s.putSlot i { generation := (s.slot i).generation, lease := l }

/-- The output record of `o`, without its holders. -/
def State.output (s : State) (o : OutputId) : Output := s.outputs[o]

/-- The level of a G line for its output's state and drive level (R38); true is high. -/
def Output.line (out : Output) : Bool := (out.state == .on) != (out.drive == .activeLow)

/-- Write an output record and drive its G line to the level the record calls for (R31, R38). -/
def State.putOutput (s : State) (o : OutputId) (x : Output) : State :=
  { s with outputs := s.outputs.set o x, gLines := s.gLines.set o x.line }

/-- The count channel `ch`. -/
def State.count (s : State) (ch : CountId) : CountChannel := s.counts[ch]

/-- Write the count channel `ch`. -/
def State.putCount (s : State) (ch : CountId) (x : CountChannel) : State := { s with counts := s.counts.set ch x }

/-- The fault channel `ch`. -/
def State.fault (s : State) (ch : FaultId) : FaultChannel := s.faults[ch]

/-- Write the fault channel `ch`. -/
def State.putFault (s : State) (ch : FaultId) (x : FaultChannel) : State := { s with faults := s.faults.set ch x }

/-- The session record of client `c`. -/
def State.session (s : State) (c : Client) : Session := s.sessions[c]

/-- Write the session record of client `c`. -/
def State.putSession (s : State) (c : Client) (x : Session) : State := { s with sessions := s.sessions.set c x }

/-- The session of client `c` is OPEN (R141). -/
def State.isOpen (s : State) (c : Client) : Bool := (s.session c).opened.isSome

/-! ### Views of the lease table -/

/-- A live lease is one in LIVE or OFFERED (R9). -/
def Phase.isLive : Phase → Bool
  | .waiting _ => false
  | .live _ _ => true
  | .offered _ _ _ _ => true
  | .ended _ _ _ _ => false

/-- The lease is a waiting request (R9). -/
def Phase.isWaiting : Phase → Bool
  | .waiting _ => true
  | .live _ _ => false
  | .offered _ _ _ _ => false
  | .ended _ _ _ _ => false

/-- The lease is live and names output `o`, so it is one of its holders (R29). -/
def Lease.holds (l : Lease) (o : OutputId) : Bool := l.phase.isLive && l.outputs.getLsbD o

/-- Slot `i` holds a live lease that names output `o`. -/
def State.slotHolds (s : State) (o : OutputId) (i : SlotId) : Bool :=
  match s.leaseAt i with
  | some l => l.holds o
  | none => false

/-- The holders of an output (R29), in ascending slot order. -/
def State.holdersOf (s : State) (o : OutputId) : List SlotId := (List.finRange 32).filter (s.slotHolds o)

/-- The output has at least one holder. -/
def State.held (s : State) (o : OutputId) : Bool := (List.finRange 32).any (s.slotHolds o)

/-- The lease in slot `i` is of kind SOLE. -/
def State.slotSole (s : State) (i : SlotId) : Bool :=
  match s.leaseAt i with
  | some l => l.kind == .sole
  | none => false

/-- An output is sole-held when its holders consist of one lease of kind SOLE (R30). -/
def State.soleHeld (s : State) (o : OutputId) : Bool :=
  match s.holdersOf o with
  | [i] => s.slotSole i
  | _ => false

/-- Slot `i` is occupied and its holder is client `c`. -/
def State.heldBy (s : State) (c : Client) (i : SlotId) : Bool :=
  match s.leaseAt i with
  | some l => l.holder == c
  | none => false

/-- The slots client `c` occupies, in ascending order (R10, R25). -/
def State.slotsOf (s : State) (c : Client) : List SlotId := (List.finRange 32).filter (s.heldBy c)

/-- The number of slots client `c` occupies, in WAITING, LIVE, OFFERED or ENDED (R10). -/
def State.occupied (s : State) (c : Client) : Nat := (s.slotsOf c).length

/-- The FREE slots, in ascending order (R2). -/
def State.freeSlots (s : State) : List SlotId := (List.finRange 32).filter fun i => (s.leaseAt i).isNone

/-- The outputs the lease in slot `i` names; none when the slot is FREE. -/
def State.outputsOf (s : State) (i : SlotId) : OutputSet :=
  match s.leaseAt i with
  | some l => l.outputs
  | none => 0

/-- The members of a set of outputs, in ascending output number (R37). -/
def members (S : OutputSet) : List OutputId := (List.finRange 8).filter fun o => S.getLsbD o

/-- The partners of the outputs of a set (R39). -/
def State.partnersOf (s : State) (S : OutputSet) : OutputSet :=
  (members S).foldl (fun acc o => acc ||| (s.output o).partners) 0

/-- The smallest max term of the outputs of a set (R44). -/
def State.minMaxTerm (s : State) (S : OutputSet) : Nat :=
  (members S).foldl (fun acc o => min acc (s.output o).maxTerm) Config.maxTicks

/-- The set of the one output `o`. -/
def oneOutput (o : OutputId) : OutputSet := BitVec.twoPow 8 o

/-- The set of the one fault channel `ch`. -/
def oneFault (ch : FaultId) : FaultSet := BitVec.twoPow 4 ch

end Sys2Proof.Machine
end

