-- ==== Sys2Proof/Machine/Operands.lean ====
section
/-! DEFINITION. Bytes on the link: the byte order of parameters and results, the check byte, the codes of R180, and the
readings of parameter bytes as clients, outputs, channels and handles. -/

namespace Sys2Proof.Machine

/-! ### Byte order and check byte -/

/-- The `k` bytes of `n`, least significant byte first (00_scope.md, "Byte order"). -/
def leBytes : Nat → Nat → List Byte
  | 0, _ => []
  | k + 1, n => BitVec.ofNat 8 n :: leBytes k (n / 256)

/-- Two parameter bytes as a number, least significant byte first. -/
def u16 (a b : Byte) : Nat := a.toNat + 256 * b.toNat

/-- Three parameter bytes as a number, least significant byte first. -/
def u24 (a b c : Byte) : Nat := a.toNat + 256 * b.toNat + 65536 * c.toNat

/-- One byte holding the number `n`. -/
def byte (n : Nat) : Byte := BitVec.ofNat 8 n

/-- A tick value as four result bytes. -/
def tickBytes (t : Tick) : List Byte := leBytes 4 t.toNat

/-- `k` bytes of an absent field, FFh each (R3). -/
def absent (k : Nat) : List Byte := List.replicate k 0xFF

/-- One shift of the check computation: 1Dh is combined in when the outgoing bit is 1 (R169). -/
def crcShift (v : Byte) : Byte := if v.msb then (v <<< 1) ^^^ 0x1D else v <<< 1

/-- The running check value after one more byte (R169). -/
def crcByte (v b : Byte) : Byte :=
  crcShift (crcShift (crcShift (crcShift (crcShift (crcShift (crcShift (crcShift (v ^^^ b))))))))

/-- The check byte of a string of bytes: CRC-8 with polynomial 1Dh and initial value FFh (R169). -/
def crc8 (bs : List Byte) : Byte := bs.foldl crcByte 0xFF

/-! ### Codes -/

/-- The code of a status (R180). -/
def Status.code : Status → Byte
  | .ok => 0x00
  | .queued => 0x01
  | .notOpen => 0x10
  | .staleSession => 0x11
  | .sequenceError => 0x12
  | .unknownCommand => 0x13
  | .badLength => 0x14
  | .notPermitted => 0x15
  | .wrongMode => 0x16
  | .badParameter => 0x20
  | .staleHandle => 0x21
  | .wrongState => 0x22
  | .tooLate => 0x23
  | .tableFull => 0x30
  | .quotaExceeded => 0x31
  | .queueFull => 0x32
  | .conflict => 0x33
  | .outputCut => 0x34
  | .outputDisabled => 0x35
  | .selfExcluded => 0x36
  | .faultActive => 0x37

/-- The code of an end reason (R13). -/
def EndReason.code : EndReason → Byte
  | .expired => 0x01
  | .countSpent => 0x02
  | .fault => 0x03
  | .revoked => 0x04
  | .halted => 0x05
  | .waitExpired => 0x06

/-- The code of an offer outcome (R116). -/
def Outcome.code : Outcome → Byte
  | .accepted => 0x01
  | .declined => 0x02
  | .withdrawn => 0x03
  | .timedOut => 0x04
  | .voided => 0x05

/-- The code of an output state (R31). -/
def OutState.code : OutState → Byte
  | .off => 0x00
  | .on => 0x01
  | .settle => 0x02
  | .cut => 0x03

/-- The code of a fault channel state (R121). -/
def FaultState.code : FaultState → Byte
  | .idle => 0x00
  | .tripped => 0x01
  | .recovering => 0x02
  | .latched => 0x03

/-- The code of a mode (R154). -/
def Mode.code : Mode → Byte
  | .setup => 0x00
  | .run => 0x01

/-- The code of a kind (R48). -/
def Kind.code : Kind → Byte
  | .shared => 0x00
  | .sole => 0x01

/-- The code of a drive level (R45). -/
def Drive.code : Drive → Byte
  | .activeHigh => 0x00
  | .activeLow => 0x01

/-- The code of an edge setting (R98). -/
def Edge.code : Edge → Byte
  | .rising => 0x00
  | .falling => 0x01
  | .both => 0x02

/-- The code of a sample interval (R98). -/
def Interval.code : Interval → Byte
  | .us1 => 0x00
  | .us8 => 0x01
  | .us64 => 0x02
  | .us512 => 0x03

/-- A flag or level as a byte: 00h or 01h. -/
def bitByte (b : Bool) : Byte := if b then 0x01 else 0x00

/-! ### Parameters -/

/-- A client byte, 00h to 07h. -/
def toClient (b : Byte) : Option Client := if h : b.toNat < 8 then some ⟨b.toNat, h⟩ else none

/-- An output byte, 00h to 07h. -/
def toOutput (b : Byte) : Option OutputId := if h : b.toNat < 8 then some ⟨b.toNat, h⟩ else none

/-- A fault channel byte, 00h to 03h. -/
def toFault (b : Byte) : Option FaultId := if h : b.toNat < 4 then some ⟨b.toNat, h⟩ else none

/-- A count channel byte, 00h to 03h. -/
def toCount (b : Byte) : Option CountId := if h : b.toNat < 4 then some ⟨b.toNat, h⟩ else none

/-- A slot byte, 00h to 1Fh. -/
def toSlot (b : Byte) : Option SlotId := if h : b.toNat < 32 then some ⟨b.toNat, h⟩ else none

/-- An off/on byte: 00h or 01h. -/
def toFlag (b : Byte) : Option Bool := if b = 0x00 then some false else if b = 0x01 then some true else none

/-- A drive level byte (R45). -/
def toDrive (b : Byte) : Option Drive :=
  if b = 0x00 then some .activeHigh else if b = 0x01 then some .activeLow else none

/-- An edge byte (R98). -/
def toEdge (b : Byte) : Option Edge :=
  if b = 0x00 then some .rising else if b = 0x01 then some .falling else if b = 0x02 then some .both else none

/-- A sample interval byte (R98). -/
def toInterval (b : Byte) : Option Interval :=
  if b = 0x00 then some .us1
  else if b = 0x01 then some .us8
  else if b = 0x02 then some .us64
  else if b = 0x03 then some .us512
  else none

/-- A kind byte (R48). -/
def toKind (b : Byte) : Option Kind := if b = 0x00 then some .shared else if b = 0x01 then some .sole else none

/-- A handle's two result bytes, slot first (R7). -/
def Handle.bytes (h : Handle) : List Byte := [byte h.slot, h.generation]

/-- The lease a handle names, with its slot: the slot number is 0 to 31, the slot is not FREE and its generation is the
handle's. A handle with generation 0 is invalid (R7). -/
def State.named (s : State) (slotByte gen : Byte) : Option (SlotId × Lease) :=
  match toSlot slotByte with
  | none => none
  | some i =>
    match s.leaseAt i with
    | none => none
    | some l => if (s.slot i).generation = gen ∧ gen ≠ 0 then some (i, l) else none

/-- The handle of the use that now occupies slot `i`. -/
def State.handleOf (s : State) (i : SlotId) : Handle := { slot := i, generation := (s.slot i).generation }

/-! ### Answers -/

/-- A command's own answer: a status and the result bytes. -/
structure Reply where
  status  : Status
  results : List Byte
deriving DecidableEq, Repr

/-- OK with results. -/
def Reply.ok (results : List Byte) : Reply := { status := .ok, results := results }

/-- A refusal, which carries no results (R174). -/
def Reply.refuse (st : Status) : Reply := { status := st, results := [] }

/-! ### The command table -/

/-- One row of the command table of R180: code, parameter length N, and whether it is a supervisor command. -/
structure CommandRow where
  code       : Byte
  length     : Nat
  supervisor : Bool
deriving DecidableEq, Repr

/-- The 29 commands of R180. -/
def commandTable : List CommandRow :=
  [ ⟨0x01, 0, false⟩, ⟨0x02, 0, false⟩, ⟨0x03, 0, false⟩, ⟨0x04, 1, false⟩, ⟨0x05, 0, false⟩,
    ⟨0x10, 11, false⟩, ⟨0x11, 2, false⟩, ⟨0x12, 5, false⟩, ⟨0x13, 4, false⟩, ⟨0x14, 2, false⟩,
    ⟨0x15, 2, false⟩, ⟨0x16, 0, false⟩, ⟨0x20, 5, false⟩, ⟨0x21, 2, false⟩, ⟨0x22, 2, false⟩,
    ⟨0x23, 2, false⟩, ⟨0x28, 0, false⟩, ⟨0x30, 0, true⟩, ⟨0x31, 0, true⟩, ⟨0x32, 7, true⟩,
    ⟨0x33, 3, true⟩, ⟨0x34, 11, true⟩, ⟨0x35, 4, true⟩, ⟨0x36, 2, true⟩, ⟨0x37, 2, true⟩,
    ⟨0x38, 1, true⟩, ⟨0x39, 1, true⟩, ⟨0x3A, 0, true⟩, ⟨0x3B, 1, true⟩ ]

/-- The row of the command table that a code names, if any (R175, step 6). -/
def lookupCommand (code : Byte) : Option CommandRow := commandTable.find? fun r => r.code == code

end Sys2Proof.Machine
end

