-- ==== Sys2Proof/Machine/Flags.lean ====
section
/-! DEFINITION. The notice unit (R150 to R152): latched notices, the attention line, and the offer outcome record. -/

namespace Sys2Proof.Machine

/-- The position of a notice kind in its byte, as a set of one kind (R150). -/
def Notice.bit : Notice → NoticeSet
  | .ended => 0x01
  | .granted => 0x02
  | .offerIn => 0x04
  | .offerOut => 0x08
  | .fault => 0x10
  | .mode => 0x20

/-- A set of notice kinds as one byte, positions 6 and 7 always 0 (R150). -/
def noticeByte (n : NoticeSet) : Byte := n.zeroExtend 8

/-- The session drives ATN: it is OPEN and has a pending kind that is also in its mask (R152). -/
def Session.calls (x : Session) : Bool := x.opened.isSome && (x.notices &&& x.mask != 0)

/-- At least one session calls for attention (R152). -/
def State.attention (s : State) : Bool := (List.finRange 8).any fun c => (s.session c).calls

/-- Bring ATN up to date (R152). -/
def State.updateAtn (s : State) : State := { s with atnLow := s.attention }

/-- Latch a notice kind for client `c`, whatever its mask; a CLOSED session receives none (R150). -/
def State.notify (s : State) (c : Client) (k : Notice) : State :=
  if s.isOpen c then
    (s.putSession c { s.session c with notices := (s.session c).notices ||| k.bit }).updateAtn
  else s

/-- Set MODE for every OPEN session other than client 0's (R157, R159). -/
def State.notifyMode (s : State) : State :=
  ((List.finRange 8).filter (· ≠ 0)).foldl (fun t c => t.notify c .mode) s

/-- Set the offer outcome record of client `c` (R116). -/
def State.setOutcome (s : State) (c : Client) (h : Handle) (o : Outcome) : State :=
  s.putSession c { s.session c with outcome := some (h, o) }

end Sys2Proof.Machine
end

