-- ==== Sys2Proof/Machine/Ops.lean ====
section
/-! DEFINITION. The shared operations of the blocks: the expiry queue, the output stage, the ends of a lease, the
admission test and the arbiter's review, and the full close of a session. -/

namespace Sys2Proof.Machine

/-! ### Expiry queue (4.2) -/

/-- Ticks remaining to a deadline, modulo 2³² (R75). -/
def remaining (now deadline : Tick) : Nat := (deadline - now).toNat

/-- Insertion (R76): behind every entry with a smaller or equal number of ticks remaining, ahead of every entry with
more. DESIGN CHOICE (assumption 25): this holds for the LEASE and OFFER entries of one lease at one deadline too, as R75, R76,
R80, R84, R87 and R82's first sentence have it; the cases R82's bullets give for them state the reverse order. -/
def insertEntry (now : Tick) (e : Entry) : List Entry → List Entry
  | [] => [e]
  | x :: xs =>
    if remaining now x.deadline ≤ remaining now e.deadline then x :: insertEntry now e xs else e :: x :: xs

/-- Removal (R76): the entries behind the removed one keep their order, and removing none changes nothing. -/
def removeEntry (k : Key) (q : List Entry) : List Entry := q.filter fun e => e.key ≠ k

/-- Insert an entry for `k` that falls due `ticks` after now (R73, R76). -/
def State.schedule (s : State) (k : Key) (ticks : Nat) : State :=
  { s with expiry := insertEntry s.clock ⟨s.clock + BitVec.ofNat 32 ticks, k⟩ s.expiry }

/-- Remove the entry for `k`, if there is one (R76). -/
def State.unschedule (s : State) (k : Key) : State := { s with expiry := removeEntry k s.expiry }

/-- A deadline `ticks` after now, modulo 2³² (R73). -/
def State.after (s : State) (ticks : Nat) : Tick := s.clock + BitVec.ofNat 32 ticks

/-! ### Output stage (2.2) -/

/-- Recompute one output after its holder set changed: a rise by R32, a fall by R33. -/
def State.recompute (s : State) (o : OutputId) : State :=
  let out := s.output o
  match out.state, s.held o with
  | .on, false =>
    if 0 < out.gap ∧ out.partners ≠ 0 then (s.putOutput o { out with state := .settle }).schedule (.settle o) out.gap
    else s.putOutput o { out with state := .off }
  | .off, true => s.putOutput o { out with state := .on }
  | .settle, true => (s.putOutput o { out with state := .on }).unschedule (.settle o)
  | _, _ => s

/-- Recompute each output of a set, in ascending output number (R37). -/
def State.recomputeAll (s : State) (S : OutputSet) : State := (members S).foldl State.recompute s

/-- Add channel `ch` to the cut-by set of one output; the output goes to CUT, and from SETTLE its entry is removed
(R35). -/
def cutOutput (ch : FaultId) (s : State) (o : OutputId) : State :=
  let out := s.output o
  let t := s.putOutput o { out with state := .cut, cutBy := out.cutBy ||| oneFault ch }
  if out.state = .settle then t.unschedule (.settle o) else t

/-- Remove channel `ch` from the cut-by set of one output; when the set becomes empty the output goes from CUT to OFF,
with no settle gap (R36). -/
def uncutOutput (ch : FaultId) (s : State) (o : OutputId) : State :=
  let out := s.output o
  let left := out.cutBy &&& ~~~(oneFault ch)
  s.putOutput o { out with cutBy := left, state := if out.state = .cut ∧ left = 0 then .off else out.state }

/-- The outputs of a list that leave CUT when channel `ch` is removed from their cut-by sets (R36). -/
def State.leaveCut (s : State) (ch : FaultId) (os : List OutputId) : List OutputId :=
  os.filter fun o => (s.output o).state = .cut ∧ (s.output o).cutBy &&& ~~~(oneFault ch) = 0

/-! ### Admission test (3.2) -/

/-- An output of the set is in CUT: condition (a) of R51 fails. -/
def State.anyCut (s : State) (S : OutputSet) : Bool := (members S).any fun o => (s.output o).state == .cut

/-- Condition (b) of R51: for SOLE every output has empty holders, for SHARED none is sole-held. -/
def State.kindFree (s : State) (S : OutputSet) (k : Kind) : Bool :=
  (members S).all fun o => match k with
    | .sole => !s.held o
    | .shared => !s.soleHeld o

/-- The output restrains its partners: it is ON or in SETTLE (R40). -/
def State.restrains (s : State) (o : OutputId) : Bool := (s.output o).state == .on || (s.output o).state == .settle

/-- A partner of an output of the set is ON or in SETTLE: condition (c) of R51 fails. -/
def State.partnerBusy (s : State) (S : OutputSet) : Bool := (members (s.partnersOf S)).any s.restrains

/-- An older waiting request names an output of the set or a partner of one: condition (d) of R51 fails (R54). -/
def State.overtakes (s : State) (ahead : List SlotId) (S : OutputSet) : Bool :=
  ahead.any fun j => s.outputsOf j &&& (S ||| s.partnersOf S) != 0

/-- The admission test of R51 for outputs `S` and kind `k`, with the older waiting requests `ahead` as its W. -/
def State.admissible (s : State) (ahead : List SlotId) (S : OutputSet) (k : Kind) : Bool :=
  !s.anyCut S && s.kindFree S k && !s.partnerBusy S && !s.overtakes ahead S

/-! ### The review (3.4) -/

/-- The grant of the waiting request in slot `i` (R60): the slot leaves the wait queue, its WAIT entry goes, it becomes
LIVE with a LEASE entry, its outputs rise and its holder receives GRANTED. -/
def State.grantWaiting (s : State) (i : SlotId) (l : Lease) : State :=
  let t := { s with waitQueue := s.waitQueue.erase i }
  let t := (t.unschedule (.wait i)).putLease i (some { l with phase := .live s.clock (s.after l.term) })
  ((t.schedule (.lease i) l.term).recomputeAll l.outputs).notify l.holder .granted

/-- One pass of the review (R59) over the entries still to be tested, with the entries ahead of them that are still
waiting. -/
def reviewFrom : List SlotId → List SlotId → State → State
  | _, [], s => s
  | ahead, i :: rest, s =>
    match s.leaseAt i with
    | some l =>
      if l.phase.isWaiting && s.admissible ahead l.outputs l.kind then reviewFrom ahead rest (s.grantWaiting i l)
      else reviewFrom (ahead ++ [i]) rest s
    | none => reviewFrom (ahead ++ [i]) rest s

/-- The arbiter's review of the wait queue (R58, R59). -/
def State.review (s : State) : State := reviewFrom [] s.waitQueue s

/-- A review, where the event asks for one (R58). -/
def State.reviewIf (s : State) (asked : Bool) : State := if asked then s.review else s

/-! ### Ends of a lease (1.4) -/

/-- Remove every expiry queue entry of slot `i` (R12, R16). -/
def State.unscheduleSlot (s : State) (i : SlotId) : State :=
  ((s.unschedule (.wait i)).unschedule (.lease i)).unschedule (.offer i)

/-- Entry to ENDED (R11) with steps 1 to 4 of R12; the review of step 5 follows the event. An ENDED lease and a FREE slot
are left as they are (R15). -/
def State.endLease (s : State) (i : SlotId) (why : EndReason) (detail : Option FaultId) : State :=
  match s.leaseAt i with
  | none => s
  | some l =>
    match l.phase with
    | .ended _ _ _ _ => s
    | .waiting _ =>
      let t := (s.unscheduleSlot i).putLease i (some { l with phase := .ended none why s.clock detail })
      { t with waitQueue := t.waitQueue.erase i }.notify l.holder .ended
    | .live g _ =>
      let t := (s.unscheduleSlot i).putLease i (some { l with phase := .ended (some g) why s.clock detail })
      (t.recomputeAll l.outputs).notify l.holder .ended
    | .offered g _ _ _ =>
      let t := (s.unscheduleSlot i).putLease i (some { l with phase := .ended (some g) why s.clock detail })
      let t := (t.recomputeAll l.outputs).setOutcome l.holder (s.handleOf i) .voided
      (t.notify l.holder .ended).notify l.holder .offerOut

/-- Freeing a slot straight to FREE (R16): its entries go, it leaves the wait queue, the slot becomes FREE with its
generation kept, and a live lease's outputs are recomputed. No notice is set. -/
def State.freeSlot (s : State) (i : SlotId) : State :=
  match s.leaseAt i with
  | none => s
  | some l =>
    let t := (s.unscheduleSlot i).putLease i none
    let t := { t with waitQueue := t.waitQueue.erase i }
    if l.phase.isLive then t.recomputeAll l.outputs else t

/-- An offer resolved with the lease staying with its giver (R111 to R113, R115): the lease returns to LIVE, its OFFER
entry goes, and the giver's outcome record is set. -/
def State.resolveOffer (s : State) (i : SlotId) (o : Outcome) : State :=
  match s.leaseAt i with
  | none => s
  | some l =>
    match l.phase with
    | .offered g d _ _ =>
      let t := (s.unschedule (.offer i)).putLease i (some { l with phase := .live g d })
      t.setOutcome l.holder (s.handleOf i) o
    | .waiting _ => s
    | .live _ _ => s
    | .ended _ _ _ _ => s

/-! ### Full close of a session (8.4) -/

/-- Slot `i` holds a waiting or live lease of client `c`. -/
def State.activeOf (s : State) (c : Client) (i : SlotId) : Bool :=
  match s.leaseAt i with
  | some l => l.holder == c && (l.phase.isLive || l.phase.isWaiting)
  | none => false

/-- The giver of the lease in slot `i`, when it is OFFERED to client `c`. -/
def State.giverTo (s : State) (c : Client) (i : SlotId) : Option Client :=
  match s.leaseAt i with
  | some l =>
    match l.phase with
    | .offered _ _ r _ => if r = c then some l.holder else none
    | .waiting _ => none
    | .live _ _ => none
    | .ended _ _ _ _ => none
  | none => none

/-- Step 2 of R145 for one slot: a lease OFFERED to the closing client returns to its giver, with outcome VOIDED and
OFFER_OUT. -/
def returnOffer (c : Client) (s : State) (i : SlotId) : State :=
  match s.giverTo c i with
  | some giver => (s.resolveOffer i .voided).notify giver .offerOut
  | none => s

/-- Steps 3 and 4 of R145: the session's own record is closed and ATN brought up to date. -/
def State.closeRecord (s : State) (c : Client) : State :=
  (s.putSession c { s.session c with opened := none, notices := 0, mask := allNotices, outcome := none }).updateAtn

/-- The full close of a session (R145). -/
def State.closeFull (s : State) (c : Client) : State :=
  let asked := (List.finRange 32).any (s.activeOf c)
  let t := (s.slotsOf c).foldl State.freeSlot s
  let t := (List.finRange 32).foldl (returnOffer c) t
  (t.closeRecord c).reviewIf asked

end Sys2Proof.Machine
end

