-- ==== Sys2Proof/Machine/Link.lean ====
section
/-! DEFINITION. The two-wire command link (chapter 10): the receiver byte by byte, frames and their acceptance, replay, the
response slots, and the rows of the table that concern the link alone. -/

namespace Sys2Proof.Machine

/-! ### The receiver (10.1, 10.2) -/

/-- The receiver with no transaction in progress (R167): the partial frame is emptied and SDA released; the selector and
the address are kept. -/
def Link.toIdle (l : Link) : Link := { l with rx := .idle, partialFrame := [], running := 0xFF, drivingSda := false }

/-- The receiver refuses the rest of the transaction (R167). -/
def Link.toDiscard (l : Link) : Link := { l with rx := .discard, partialFrame := [], running := 0xFF }

/-- A byte joins the partial frame, and the running check value takes it in (R169). -/
def Link.keep (l : Link) (b : Byte) : Link :=
  { l with rx := .frame, partialFrame := l.partialFrame ++ [b], running := crcByte l.running b }

/-- The first data byte of a write transaction, and whether it is acknowledged (R168, R172): a client number begins a
frame, 80h to 87h a selector write, anything else is refused. -/
def Link.firstByte (l : Link) (b : Byte) : Link × Bool :=
  if b.toNat < 8 then (l.toIdle.keep b, true)
  else if 0x80 ≤ b.toNat ∧ b.toNat < 0x88 then ({ l.toIdle with rx := .selector (Fin.ofNat 8 b.toNat) }, true)
  else (l.toIdle.toDiscard, false)

/-- A later data byte of a write transaction, and whether it is acknowledged (R168): in FRAME bytes 1 to 3 are taken, byte 4
when it is 0 to 20, the parameters, and then the check byte when it is right; past a check byte, past a selector byte and
in DISCARD every byte is refused. -/
def Link.nextByte (l : Link) (b : Byte) : Link × Bool :=
  match l.rx with
  | .frame =>
    let k := l.partialFrame.length
    if k < 4 then (l.keep b, true)
    else if k = 4 then (if b.toNat ≤ Config.maxParams then (l.keep b, true) else (l.toDiscard, false))
    else if k < 5 + (l.partialFrame.getD 4 0).toNat then (l.keep b, true)
    else if b = l.running then ({ l with rx := .complete, partialFrame := l.partialFrame ++ [b] }, true)
    else (l.toDiscard, false)
  | .complete => (l.toDiscard, false)
  | .selector _ => (l.toDiscard, false)
  | .discard => (l, false)
  | .idle => (l, false)
  | .read => (l, false)

/-- The receiver after a START, the part's address for a write, and the data bytes `bs`. The START ends whatever
transaction was in progress; an address followed by no data byte changes nothing (R167). -/
def Link.receive (l : Link) : List Byte → Link
  | [] => l.toIdle
  | b :: bs => bs.foldl (fun m x => (m.nextByte x).1) (l.firstByte b).1

/-- The acknowledge bits of a write transaction's data bytes, in order (R168). -/
def Link.acks (l : Link) : List Byte → List Bool
  | [] => []
  | b :: bs => (l.firstByte b).2 :: go (l.firstByte b).1 bs
where
  go (m : Link) : List Byte → List Bool
    | [] => []
    | x :: xs => (m.nextByte x).2 :: go (m.nextByte x).1 xs

/-- The receiver after a START and the part's address for a read (R167). -/
def Link.beginRead (l : Link) : Link := { l.toIdle with rx := .read, drivingSda := true }

/-- The link timeout (R171): the transaction is dropped whatever the receiver's state, SDA is released, and the selector
keeps its value. -/
def Link.timeout (l : Link) : Link := l.toIdle

/-- The part acknowledges this address: it is its own, outside reset and the internal start (R166, R163). -/
def State.hears (s : State) (addr : BitVec 7) : Bool := s.power == .running && s.link.address == addr

/-- The state after a transaction addressed elsewhere: the part does not acknowledge it and ignores the rest of it (R166),
but its START is the end condition of whatever transaction was in progress, and the receiver is then in IDLE (R167). In
reset and the internal start the link is held at its reset values (R163). -/
def State.passedBy (s : State) : State := if s.power = .running then { s with link := s.link.toIdle } else s

/-- The link as the transfer on the bus has left it; a transfer addressed elsewhere is ignored (R166). -/
def State.linkDuring (s : State) : Transfer → Link
  | .write addr bs => if s.hears addr then s.link.receive bs else s.passedBy.link
  | .read addr => if s.hears addr then s.link.beginRead else s.passedBy.link

/-! ### Frames -/

/-- The bytes of a frame before its check byte, with command code `code` (R168). -/
def frameBody (code : Byte) (f : Frame) : List Byte :=
  [f.client, f.epoch, f.seq, code, byte f.params.length] ++ f.params

/-- The bytes a controller sends for a frame after the write address (R168). -/
def frameBytes (code : Byte) (f : Frame) : List Byte := frameBody code f ++ [f.check]

/-- A frame as the link hands it to the session table (R170). -/
structure Received where
  client : Client
  epoch  : Byte
  seq    : Byte
  code   : Byte
  params : List Byte
deriving DecidableEq, Repr

/-- The frame that the receiver's partial frame holds in COMPLETE (R168): the last of its bytes is the check byte. -/
def receivedOf (p : List Byte) : Received :=
  { client := Fin.ofNat 8 (p.getD 0 0).toNat
    epoch := p.getD 1 0
    seq := p.getD 2 0
    code := p.getD 3 0
    params := (p.drop 5).dropLast }

/-! ### Responses (10.3) -/

/-- The response to frame `r` with answer `a`: client, the session's epoch as it stands, the echoed sequence and code,
status and results (R173, R174). -/
def State.responseTo (s : State) (r : Received) (a : Reply) : Response :=
  { client := r.client, epoch := (s.session r.client).epoch, seq := r.seq, code := r.code
    status := a.status, results := a.results }

/-- Write a response to client `c`'s response slot (R174). -/
def State.writeSlot (s : State) (c : Client) (x : Response) : State :=
  s.putSession c { s.session c with response := some x }

/-- Answer frame `r` in the response slot alone (R175 steps 1, 3 and 5, R176). -/
def State.answerSlot (s : State) (r : Received) (a : Reply) : State := s.writeSlot r.client (s.responseTo r a)

/-- Answer frame `r` in the slot and the replay cache, and set the last sequence (R175 steps 6 to 9). A session that the
command has closed keeps no cache and no sequence, so there the slot alone is written (R146). -/
def State.conclude (s : State) (r : Received) (a : Reply) : State :=
  let x := s.responseTo r a
  s.putSession r.client
    { s.session r.client with
      response := some x
      opened := (s.session r.client).opened.map fun _ => { lastSeq := r.seq, cache := x } }

/-- The bytes of a response before its check byte (R173). -/
def Response.body (x : Response) : List Byte :=
  [byte x.client, x.epoch, x.seq, x.code, x.status.code, byte x.results.length] ++ x.results

/-- The bytes of client `c`'s response slot; an empty slot reads as NO_RESPONSE (R173). -/
def State.slotBytes (s : State) (c : Client) : List Byte :=
  let b := match (s.session c).response with
    | some x => x.body
    | none => [byte c, 0x00, 0xFF, 0xFF, 0xFF, 0x00]
  b ++ [crc8 b]

/-- The first `n` bytes a read transaction from address `addr` returns: the selected client's slot, and FFh past its check
byte; none where the part does not acknowledge the address, which is every address in reset and the internal start (R163,
R166). It is a view of the state, since reading changes nothing (R173). -/
def State.readTransaction (s : State) (addr : BitVec 7) (n : Nat) : Option (List Byte) :=
  let b := s.slotBytes s.link.selector
  if s.hears addr then some (b.take n ++ List.replicate (n - b.length) 0xFF) else none

/-! ### Acceptance (10.4) -/

/-- What a command does once it is handed to its owning block: the caller, the parameter bytes and the state give the new
state and the answer. -/
abbrev Body := Client → List Byte → State → State × Reply

/-- The acceptance of a frame whose code is not OPEN (R175). The first step that applies decides. After a device reset every
session is CLOSED, so step 1 answers a resent frame NOT_OPEN whatever became of its first sending (R165; DESIGN CHOICE
against R178's recovery table, assumption 27). -/
def accept (body : Body) (r : Received) (s : State) : State :=
  let x := s.session r.client
  match x.opened with
  | none => s.answerSlot r (.refuse .notOpen)
  | some o =>
    if r.epoch ≠ x.epoch then s.answerSlot r (.refuse .staleSession)
    else if r.seq = o.lastSeq then s.writeSlot r.client o.cache
    else if r.seq ≠ o.lastSeq + 1 then s.answerSlot r (.refuse .sequenceError)
    else
      match lookupCommand r.code with
      | none => s.conclude r (.refuse .unknownCommand)
      | some row =>
        if r.params.length ≠ row.length then s.conclude r (.refuse .badLength)
        else if row.supervisor = true ∧ r.client ≠ 0 then s.conclude r (.refuse .notPermitted)
        else
          let done := body r.client r.params s
          done.1.conclude r done.2

/-- A write transaction that carries a frame with code `code`, ended by STOP or repeated START: the receiver takes the
bytes, and a frame that reaches COMPLETE is taken, in one event, by `take` (R170). Any other is discarded, and nothing but
the receiver has moved. A frame sent to another address, or during reset or the internal start, is passed by (R166). -/
def frameRow (code : Byte) (take : Received → State → State) (f : Frame) (s : State) : State :=
  if s.hears f.addr then
    let l := s.link.receive (frameBytes code f)
    let t := { s with link := l.toIdle }
    match l.rx with
    | .complete => take (receivedOf l.partialFrame) t
    | .idle => t
    | .frame => t
    | .selector _ => t
    | .discard => t
    | .read => t
  else s.passedBy

/-- The body of a frame whose code names no command: it is never handed to a block, since step 6 of R175 answers it. -/
def noBody : Body := fun _ _ s => (s, .refuse .unknownCommand)

/-! ### Rows of the link -/

/-- UNKNOWN_COMMAND (R175, step 6): a frame whose code is not in the command table. A frame whose code is in the table is
another row's event, and this row then changes nothing (assumption 9). -/
def execUnknownCommand (f : Frame) (code : Byte) (s : State) : Host.Outcome State Fault Refusal :=
  .next (if (lookupCommand code).isNone then frameRow code (accept noBody) f s else s)

/-- SELECTOR_WRITE (R172): a one-byte write of 80h to 87h, ended by STOP or repeated START, sets the selector. -/
def execSelectorWrite (addr : BitVec 7) (b : Byte) (s : State) : Host.Outcome State Fault Refusal :=
  .next <|
    if s.hears addr then
      let l := s.link.receive [b]
      match l.rx with
      | .selector c => { s with link := { l.toIdle with selector := c } }
      | .idle => { s with link := l.toIdle }
      | .frame => { s with link := l.toIdle }
      | .complete => { s with link := l.toIdle }
      | .discard => { s with link := l.toIdle }
      | .read => { s with link := l.toIdle }
    else s.passedBy

/-- FRAME_DISCARDED (R170): the receiver takes the bytes, and the frame is refused by NACK or ended before its check byte.
Before its end condition a refused transaction leaves the receiver in DISCARD; after it, in IDLE. Bytes that make a good
frame or a selector write, and bytes not yet refused, are no discarded frame: then nothing happens (assumption 9). -/
def execFrameDiscarded (addr : BitVec 7) (bytes : List Byte) (ended : Bool) (s : State) :
    Host.Outcome State Fault Refusal :=
  .next <|
    if s.hears addr then
      let l := s.link.receive bytes
      match l.rx, ended with
      | .discard, true => { s with link := l.toIdle }
      | .discard, false => { s with link := l }
      | .frame, true => { s with link := l.toIdle }
      | .idle, true => { s with link := l.toIdle }
      | _, _ => s
    else s.passedBy

/-- LINK_TIMEOUT (R171): the transfer on the bus is dropped and the receiver returns to IDLE; nothing else changes. While
the part is in reset or starting up the link is at its reset values and stays so. -/
def execLinkTimeout (onBus : Option Transfer) (s : State) : Host.Outcome State Fault Refusal :=
  .next <|
    if s.power = .running then
      match onBus with
      | some x => { s with link := (s.linkDuring x).timeout }
      | none => { s with link := s.link.timeout }
    else s

end Sys2Proof.Machine
end

