-- ==== Sys2Proof/Machine/Arbiter.lean ====
section
/-! DEFINITION. REQUEST (chapter 3): the static checks, the admission test, and the grant, queuing or refusal. -/

namespace Sys2Proof.Machine

/-- The parameters of a REQUEST as its 11 bytes carry them (R48). -/
structure RequestParams where
  outputs : OutputSet
  kind    : Byte
  term    : Nat
  wait    : Nat
  channel : Byte
  budget  : Nat
  tag     : Byte
deriving DecidableEq, Repr

/-- The 11 parameter bytes read in the order of R48. -/
def requestParams : List Byte → Option RequestParams
  | [os, k, t0, t1, t2, w0, w1, ch, b0, b1, tag] =>
    some { outputs := os, kind := k, term := u24 t0 t1 t2, wait := u16 w0 w1, channel := ch, budget := u16 b0 b1, tag := tag }
  | _ => none

/-- The count bound a REQUEST asks for: none for FFh, else its channel and budget with a spent count of 0 (R4). -/
def RequestParams.bound (r : RequestParams) : Option CountBound :=
  if r.channel = 0xFF then none
  else match toCount r.channel with
    | some ch => some { channel := ch, budget := r.budget, spent := 0 }
    | none => none

/-- The count channel of a REQUEST is fit: FFh, or an enabled channel with a budget of at least 1 (R49, step 2). -/
def State.channelFit (s : State) (r : RequestParams) : Bool :=
  if r.channel = 0xFF then true
  else match toCount r.channel with
    | some ch => r.budget != 0 && (s.count ch).enabled
    | none => false

/-- The output set holds two outputs that are partners of each other (R49, step 3). -/
def State.selfExcluded (s : State) (S : OutputSet) : Bool := s.partnersOf S &&& S != 0

/-- An output of the set is disabled, with a max term of 0 (R49, step 4). -/
def State.anyDisabled (s : State) (S : OutputSet) : Bool := (members S).any fun o => (s.output o).maxTerm == 0

/-- The static checks of a REQUEST in the order of R49: the status that refuses it, or its kind and the slot it will take if
it is granted or queued, the lowest-numbered FREE one (R50). -/
def State.staticChecks (s : State) (c : Client) (r : RequestParams) : Except Status (Kind × SlotId) :=
  if s.mode = .setup then .error .wrongMode
  else
    match toKind r.kind with
    | none => .error .badParameter
    | some k =>
      if r.outputs = 0 ∨ r.term = 0 ∨ Config.maxTicks < r.term ∨ Config.maxWait < r.wait ∨ s.channelFit r = false then
        .error .badParameter
      else if s.selfExcluded r.outputs then .error .selfExcluded
      else if s.anyDisabled r.outputs then .error .outputDisabled
      else if s.minMaxTerm r.outputs < r.term then .error .badParameter
      else if (s.session c).quota ≤ s.occupied c then .error .quotaExceeded
      else match s.freeSlots with
        | [] => .error .tableFull
        | i :: _ => .ok (k, i)

/-- The generation a slot carries when it is next taken: raised by 1, and 255 becomes 1 (R4). -/
def nextGeneration (g : Byte) : Byte := if g = 0xFF then 0x01 else g + 1

/-- The lease record a REQUEST of client `c` makes, in state `phase` (R4). -/
def RequestParams.lease (r : RequestParams) (c : Client) (k : Kind) (phase : Phase) : Lease :=
  { holder := c, tag := r.tag, outputs := r.outputs, kind := k, term := r.term, count := r.bound, phase := phase }

/-- Slot `i` is taken: its generation rises and it holds the new lease (R4). -/
def State.takeSlot (s : State) (i : SlotId) (l : Lease) : State :=
  s.putSlot i { generation := nextGeneration (s.slot i).generation, lease := some l }

/-- The results of a REQUEST answered OK or QUEUED: handle and tick (R181). -/
def State.grantBytes (s : State) (i : SlotId) (t : Tick) : List Byte := (s.handleOf i).bytes ++ tickBytes t

/-- The grant of a new REQUEST (R51): the slot goes to LIVE with a LEASE entry, and its outputs rise. -/
def State.grantNew (s : State) (c : Client) (r : RequestParams) (k : Kind) (i : SlotId) : State × Reply :=
  let d := s.after r.term
  let t := s.takeSlot i (r.lease c k (.live s.clock d))
  ((t.schedule (.lease i) r.term).recomputeAll r.outputs, .ok (t.grantBytes i d))

/-- The queuing of a new REQUEST (R53): the slot goes to WAITING, joins the wait queue at its tail and has a WAIT entry. -/
def State.queueNew (s : State) (c : Client) (r : RequestParams) (k : Kind) (i : SlotId) : State × Reply :=
  let w := s.after r.wait
  let t := s.takeSlot i (r.lease c k (.waiting w))
  ({ t with waitQueue := t.waitQueue ++ [i] }.schedule (.wait i) r.wait,
    { status := .queued, results := t.grantBytes i w })

/-- REQUEST (R48 to R53). -/
def requestBody : Body := fun c p s =>
  match requestParams p with
  | none => (s, .refuse .badLength)
  | some r =>
    match s.staticChecks c r with
    | .error st => (s, .refuse st)
    | .ok (k, i) =>
      if s.admissible s.waitQueue r.outputs k then s.grantNew c r k i
      else if r.wait = 0 then (s, .refuse (if s.anyCut r.outputs then .outputCut else .conflict))
      else if s.waitQueue.length < Config.queueCapacity then s.queueNew c r k i
      else (s, .refuse .queueFull)

/-- REQUEST (R48). -/
def execRequest (f : Frame) (s : State) : Host.Outcome State Fault Refusal :=
  .next (frameRow 0x10 (accept requestBody) f s)

end Sys2Proof.Machine
end

