-- ==== Sys2Proof/Machine/Faults.lean ====
section
/-! DEFINITION. Fault channels and output cuts (chapter 7): the filter, trips, clears, recovery, the latch, SET_FAULT,
RELEASE_FAULT and FAULT_STATUS. -/

namespace Sys2Proof.Machine

/-! ### Cuts (7.3, 7.6) -/

/-- Remove channel `ch` from the cut-by sets of the outputs `os`; one review follows when at least one of them leaves CUT
(R36). -/
def State.uncut (s : State) (ch : FaultId) (os : List OutputId) : State := os.foldl (uncutOutput ch) s

/-- Slot `i` holds a live lease that names an output of the set (R124, step 3). -/
def State.cutLease (s : State) (S : OutputSet) (i : SlotId) : Bool :=
  match s.leaseAt i with
  | some l => l.phase.isLive && (l.outputs &&& S != 0)
  | none => false

/-- The outputs whose cut-by sets hold channel `ch` (R135, step 2). -/
def State.cutByChannel (s : State) (ch : FaultId) : List OutputId :=
  (List.finRange 8).filter fun o => (s.output o).cutBy &&& oneFault ch != 0

/-- Remove the channel's RECOVER or QUIET entry, whichever exists (R124, R135). -/
def State.unscheduleFault (s : State) (ch : FaultId) : State := (s.unschedule (.recover ch)).unschedule (.quiet ch)

/-! ### The trip and the other changes of the filtered level -/

/-- The trip (R124), its steps in order, for a channel record `x` whose filtered level has become active. -/
def State.trip (s : State) (ch : FaultId) (x : FaultChannel) : State :=
  let count := x.tripCount + 1
  let t := s.putFault ch { x with tripCount := count }
  let t := t.unscheduleFault ch
  let hit := (List.finRange 32).filter (t.cutLease x.cutSet)
  let t := hit.foldl (fun u i => u.endLease i .fault (some ch)) t
  let settling := (members x.cutSet).any fun o => (t.output o).state == .settle
  let t := (members x.cutSet).foldl (cutOutput ch) t
  let t := t.putFault ch { x with tripCount := count, state := if count = x.latchLimit then .latched else .tripped }
  (t.notify 0 .fault).reviewIf (!hit.isEmpty || settling)

/-- The change of the filtered level that the due sample makes, with what the channel's state does at it (R122): a trip in
IDLE and RECOVERING (R124), a clear in TRIPPED (R127), and the level alone otherwise (R131). -/
def State.levelChange (s : State) (ch : FaultId) : State :=
  let x := s.fault ch
  let y := { x with filtered := !x.filtered, run := 0, changeDue := false }
  match x.state, y.filtered with
  | .idle, true => s.trip ch y
  | .recovering, true => s.trip ch y
  | .tripped, false => (s.putFault ch { y with state := .recovering }).schedule (.recover ch) x.recoveryDelay
  | _, _ => s.putFault ch y

/-- The channel after a sample of its line at `level`, at an advance of the clock (R122). A sample that agrees with the
filtered level sets the run to 0, one that differs raises it; the sample that makes the run reach the filter samples
setting is the one that changes the filtered level, and that event is then due. -/
def FaultChannel.sampled (x : FaultChannel) (level : Bool) : FaultChannel :=
  if x.enabled then
    if (level == x.activeHigh) == x.filtered then { x with run := 0 }
    else if x.run + 1 < x.filterSamples then { x with run := x.run + 1 }
    else { x with changeDue := true }
  else x

/-- Every enabled channel samples its line (R122). -/
def State.sampleFaults (s : State) (lines : Vector Bool 4) : State :=
  { s with
    pins := { s.pins with fault := lines }
    faults := Vector.ofFn fun ch : FaultId => (s.fault ch).sampled lines[ch] }

/-- Take every change of filtered level that is due, in ascending channel order. -/
def State.takeChanges (s : State) : State :=
  (List.finRange 4).foldl (fun t ch => if (t.fault ch).changeDue then t.levelChange ch else t) s

/-- FAULT_TRIP (R124): the sample due on the channel makes its filtered level active in IDLE or RECOVERING. Where no such
change is due the event does not happen (assumption 9). -/
def execFaultTrip (ch : FaultId) (s : State) : Host.Outcome State Fault Refusal :=
  .next <|
    let x := s.fault ch
    if s.power = .running ∧ x.changeDue = true ∧ x.filtered = false ∧ (x.state = .idle ∨ x.state = .recovering) then
      s.levelChange ch
    else s

/-- FAULT_CLEAR (R127): the sample due on the channel makes a TRIPPED channel's filtered level inactive. -/
def execFaultClear (ch : FaultId) (s : State) : Host.Outcome State Fault Refusal :=
  .next <|
    let x := s.fault ch
    if s.power = .running ∧ x.changeDue = true ∧ x.filtered = true ∧ x.state = .tripped then s.levelChange ch else s

/-- LATCHED_LEVEL_CHANGE (R131): the sample due on a LATCHED channel changes its filtered level, and nothing else. -/
def execLatchedLevelChange (ch : FaultId) (s : State) : Host.Outcome State Fault Refusal :=
  .next <|
    let x := s.fault ch
    if s.power = .running ∧ x.changeDue = true ∧ x.state = .latched then s.levelChange ch else s

/-! ### Recovery and quiet period (7.4) -/

/-- The recovery of a RECOVERING channel (R129), its steps in order. -/
def State.recover (s : State) (ch : FaultId) : State :=
  let x := s.fault ch
  let t := s.putFault ch { x with state := .idle }
  let asked := !(t.leaveCut ch (members x.cutSet)).isEmpty
  let t := t.uncut ch (members x.cutSet)
  let t := t.schedule (.quiet ch) x.quietPeriod
  (t.notify 0 .fault).reviewIf asked

/-- The end of a quiet period (R130): the trip count becomes 0. -/
def State.quiet (s : State) (ch : FaultId) : State := s.putFault ch { s.fault ch with tripCount := 0 }

/-! ### Commands (7.5, 7.7, 7.8) -/

/-- RELEASE_FAULT (R132): releases a LATCHED channel whose filtered level is inactive. -/
def releaseFaultBody : Body := fun _ p s =>
  match p with
  | [b] =>
    match toFault b with
    | none => (s, .refuse .badParameter)
    | some ch =>
      let x := s.fault ch
      match x.state, x.filtered with
      | .latched, false =>
        let t := s.putFault ch { x with state := .idle, tripCount := 0 }
        let asked := !(t.leaveCut ch (members x.cutSet)).isEmpty
        ((t.uncut ch (members x.cutSet)).reviewIf asked, .ok [])
      | .latched, true => (s, .refuse .faultActive)
      | .idle, _ => (s, .refuse .wrongState)
      | .tripped, _ => (s, .refuse .wrongState)
      | .recovering, _ => (s, .refuse .wrongState)
  | _ => (s, .refuse .badLength)

/-- The restart of a channel by SET_FAULT (R135), its steps in order, with `x` the new settings at their restart state. -/
def State.restartFault (s : State) (ch : FaultId) (x : FaultChannel) : State :=
  let t := s.unscheduleFault ch
  let os := t.cutByChannel ch
  let asked := !(t.leaveCut ch os).isEmpty
  ((t.uncut ch os).putFault ch x).reviewIf asked

/-- SET_FAULT (R134): writes the settings of one fault channel in SETUP and restarts it. -/
def setFaultBody : Body := fun _ p s =>
  if s.mode = .run then (s, .refuse .wrongMode)
  else match p with
    | [b, en, al, n, cut, r0, r1, lim, q0, q1, q2] =>
      match toFault b, toFlag en, toFlag al with
      | some ch, some en, some low =>
        if 2 ≤ n.toNat ∧ n.toNat ≤ 16 ∧ 1 ≤ u16 r0 r1 ∧ u16 r0 r1 ≤ Config.maxWait ∧ 1 ≤ lim.toNat ∧ lim.toNat ≤ 15 ∧
            1 ≤ u24 q0 q1 q2 ∧ u24 q0 q1 q2 ≤ Config.maxTicks then
          (s.restartFault ch
            { enabled := en, activeHigh := !low, filterSamples := n.toNat, cutSet := cut, recoveryDelay := u16 r0 r1
              latchLimit := lim.toNat, quietPeriod := u24 q0 q1 q2, state := .idle, tripCount := 0, filtered := false
              run := 0, changeDue := false }, .ok [])
        else (s, .refuse .badParameter)
      | _, _, _ => (s, .refuse .badParameter)
    | _ => (s, .refuse .badLength)

/-- FAULT_STATUS (R136): state code, trip count and filtered level of F0 to F3. -/
def faultStatusBody : Body := fun _ _ s =>
  (s, .ok ((List.finRange 4).flatMap fun ch =>
    [(s.fault ch).state.code, byte (s.fault ch).tripCount, bitByte (s.fault ch).filtered]))

/-- RELEASE_FAULT (R132). -/
def execReleaseFault (f : Frame) (s : State) : Host.Outcome State Fault Refusal :=
  .next (frameRow 0x38 (accept releaseFaultBody) f s)

/-- SET_FAULT (R134). -/
def execSetFault (f : Frame) (s : State) : Host.Outcome State Fault Refusal :=
  .next (frameRow 0x34 (accept setFaultBody) f s)

/-- FAULT_STATUS (R136). -/
def execFaultStatus (f : Frame) (s : State) : Host.Outcome State Fault Refusal :=
  .next (frameRow 0x3A (accept faultStatusBody) f s)

end Sys2Proof.Machine
end

