-- ==== Sys2Proof/Machine/Leases.lean ====
section
/-! DEFINITION. The commands that act on a lease as a whole: RELEASE, ACK_END, QUERY, LIST and REVOKE (chapter 1), and the
order of checks of R8. -/

namespace Sys2Proof.Machine

/-- The checks of R8 for a command open to the holder alone: a valid handle, then the holder as caller; `act` answers for
each state of the lease. -/
def forHolder (c : Client) (slotByte gen : Byte) (s : State) (act : SlotId → Lease → State × Reply) : State × Reply :=
  match s.named slotByte gen with
  | none => (s, .refuse .staleHandle)
  | some (i, l) => if l.holder = c then act i l else (s, .refuse .notPermitted)

/-- RELEASE (R19, R64): a live lease or a waiting request is freed by R16 and the arbiter reviews; a pending offer is
voided with no notice; an ENDED record answers TOO_LATE. -/
def releaseBody : Body := fun c p s =>
  match p with
  | [sl, g] =>
    forHolder c sl g s fun i l =>
      match l.phase with
      | .waiting _ => ((s.freeSlot i).review, .ok [])
      | .live _ _ => ((s.freeSlot i).review, .ok [])
      | .offered _ _ _ _ => (((s.freeSlot i).setOutcome c (s.handleOf i) .voided).review, .ok [])
      | .ended _ _ _ _ => (s, .refuse .tooLate)
  | _ => (s, .refuse .badLength)

/-- The end detail on the link: the fault channel, or FFh for none (R13). -/
def detailByte : Option FaultId → Byte
  | some ch => byte ch
  | none => 0xFF

/-- ACK_END (R21): an ENDED lease is freed and its end record reported; nothing else moves. -/
def ackEndBody : Body := fun c p s =>
  match p with
  | [sl, g] =>
    forHolder c sl g s fun i l =>
      match l.phase with
      | .ended _ why at_ detail =>
        (s.putLease i none, .ok ([why.code] ++ tickBytes at_ ++ [detailByte detail]))
      | .waiting _ => (s, .refuse .wrongState)
      | .live _ _ => (s, .refuse .wrongState)
      | .offered _ _ _ _ => (s, .refuse .wrongState)
  | _ => (s, .refuse .badLength)

/-- The state code of an occupied slot (R182). -/
def Phase.code : Phase → Byte
  | .waiting _ => 0x01
  | .live _ _ => 0x02
  | .offered _ _ _ _ => 0x03
  | .ended _ _ _ _ => 0x04

/-- The three count bound fields of a record: channel, budget, spent (R182). -/
def countBytes : Option CountBound → List Byte
  | some k => [byte k.channel] ++ leBytes 2 k.budget ++ leBytes 2 k.spent
  | none => absent 5

/-- The fields of a record that depend on its state (R24): queue position and wait deadline; granted-at; deadline; offer;
end. `bound` is the count bound, which stands between the deadline and the offer. -/
def phaseBytes (position : Nat) (bound : List Byte) : Phase → List Byte
  | .waiting w => [byte position] ++ tickBytes w ++ absent 8 ++ bound ++ absent 11
  | .live g d => absent 5 ++ tickBytes g ++ tickBytes d ++ bound ++ absent 11
  | .offered g d r od => absent 5 ++ tickBytes g ++ tickBytes d ++ bound ++ [byte r] ++ tickBytes od ++ absent 6
  | .ended g why at_ detail =>
    absent 5 ++ (match g with | some t => tickBytes t | none => absent 4) ++ absent 4 ++ bound ++ absent 5 ++
      [why.code] ++ tickBytes at_ ++ [detailByte detail]

/-- The number of requests older than the one in slot `i` in the wait queue (R57). -/
def State.queuePosition (s : State) (i : SlotId) : Nat := s.waitQueue.idxOf i

/-- The 39 bytes of QUERY for the lease `l` in slot `i` (R182). -/
def State.queryBytes (s : State) (i : SlotId) (l : Lease) : List Byte :=
  [byte i, (s.slot i).generation, l.phase.code, byte l.holder, l.tag, l.outputs, l.kind.code] ++ leBytes 3 l.term ++
    phaseBytes (s.queuePosition i) (countBytes l.count) l.phase

/-- QUERY is open to the holder, the receiver of a pending offer and the supervisor (R17). -/
def Lease.mayQuery (l : Lease) (c : Client) : Bool :=
  l.holder == c || c == 0 ||
    match l.phase with
    | .offered _ _ r _ => r == c
    | .waiting _ => false
    | .live _ _ => false
    | .ended _ _ _ _ => false

/-- QUERY (R23): reports the whole record of one lease and changes nothing. -/
def queryBody : Body := fun c p s =>
  match p with
  | [sl, g] =>
    match s.named sl g with
    | none => (s, .refuse .staleHandle)
    | some (i, l) => if l.mayQuery c then (s, .ok (s.queryBytes i l)) else (s, .refuse .notPermitted)
  | _ => (s, .refuse .badLength)

/-- LIST (R25): the number of the caller's occupied slots and their handles, in ascending slot order. -/
def listBody : Body := fun c _ s =>
  (s, .ok ([byte (s.occupied c)] ++ (s.slotsOf c).flatMap fun i => (s.handleOf i).bytes))

/-- REVOKE (R26): ends a waiting or live lease with reason REVOKED; the arbiter reviews. An ENDED record answers
WRONG_STATE. -/
def revokeBody : Body := fun _ p s =>
  match p with
  | [sl, g] =>
    match s.named sl g with
    | none => (s, .refuse .staleHandle)
    | some (i, l) =>
      match l.phase with
      | .ended _ _ _ _ => (s, .refuse .wrongState)
      | .waiting _ => ((s.endLease i .revoked none).review, .ok [])
      | .live _ _ => ((s.endLease i .revoked none).review, .ok [])
      | .offered _ _ _ _ => ((s.endLease i .revoked none).review, .ok [])
  | _ => (s, .refuse .badLength)

/-- RELEASE (R19). -/
def execRelease (f : Frame) (s : State) : Host.Outcome State Fault Refusal :=
  .next (frameRow 0x11 (accept releaseBody) f s)

/-- ACK_END (R21). -/
def execAckEnd (f : Frame) (s : State) : Host.Outcome State Fault Refusal :=
  .next (frameRow 0x14 (accept ackEndBody) f s)

/-- QUERY (R23). -/
def execQuery (f : Frame) (s : State) : Host.Outcome State Fault Refusal :=
  .next (frameRow 0x15 (accept queryBody) f s)

/-- LIST (R25). -/
def execList (f : Frame) (s : State) : Host.Outcome State Fault Refusal :=
  .next (frameRow 0x16 (accept listBody) f s)

/-- REVOKE (R26). -/
def execRevoke (f : Frame) (s : State) : Host.Outcome State Fault Refusal :=
  .next (frameRow 0x37 (accept revokeBody) f s)

end Sys2Proof.Machine
end

