-- ==== Sys2Proof/Machine/Clock.lean ====
section
/-! DEFINITION. The lease clock, the delivery of deadlines and RENEW (chapter 4). -/

namespace Sys2Proof.Machine

/-! ### RENEW (4.5) -/

/-- The fourth check of RENEW and its effect on a live lease (R86): the new term, the new deadline counted from now, and the
LEASE entry moved behind every entry with an equal deadline (R76, R87), the lease's own OFFER entry among them (DESIGN CHOICE
against R82's bullets, assumption 25). -/
def renewLive (i : SlotId) (l : Lease) (term : Nat) (phase : Tick → Phase) (s : State) : State × Reply :=
  if 1 ≤ term ∧ term ≤ s.minMaxTerm l.outputs then
    let d := s.after term
    (((s.putLease i (some { l with term := term, phase := phase d })).unschedule (.lease i)).schedule (.lease i) term,
      .ok (tickBytes d))
  else (s, .refuse .badParameter)

/-- RENEW (R86): the holder gives a live lease a new term counted from now. -/
def renewBody : Body := fun c p s =>
  match p with
  | [sl, g, t0, t1, t2] =>
    forHolder c sl g s fun i l =>
      match l.phase with
      | .waiting _ => (s, .refuse .wrongState)
      | .ended _ _ _ _ => (s, .refuse .tooLate)
      | .live ga _ => renewLive i l (u24 t0 t1 t2) (fun d => .live ga d) s
      | .offered ga _ r od => renewLive i l (u24 t0 t1 t2) (fun d => .offered ga d r od) s
  | _ => (s, .refuse .badLength)

/-- RENEW (R86). -/
def execRenew (f : Frame) (s : State) : Host.Outcome State Fault Refusal :=
  .next (frameRow 0x12 (accept renewBody) f s)

/-! ### What each kind of due entry does (R80) -/

/-- A LEASE entry due on slot `i` (R83): a live lease ends EXPIRED and the arbiter reviews. -/
def State.leaseDue (s : State) (i : SlotId) : State :=
  match s.leaseAt i with
  | some l => if l.phase.isLive then (s.endLease i .expired none).review else s
  | none => s

/-- An OFFER entry due on slot `i` (R113): the offer times out and the lease returns to LIVE with the giver. -/
def State.offerDue (s : State) (i : SlotId) : State :=
  match s.leaseAt i with
  | some l =>
    match l.phase with
    | .offered _ _ _ _ => (s.resolveOffer i .timedOut).notify l.holder .offerOut
    | .waiting _ => s
    | .live _ _ => s
    | .ended _ _ _ _ => s
  | none => s

/-- A WAIT entry due on slot `i` (R62): the request ends WAIT_EXPIRED and the arbiter reviews. -/
def State.waitDue (s : State) (i : SlotId) : State :=
  match s.leaseAt i with
  | some l => if l.phase.isWaiting then (s.endLease i .waitExpired none).review else s
  | none => s

/-- A SETTLE entry due on output `o` (R34): the output goes to OFF and the arbiter reviews. -/
def State.settleDue (s : State) (o : OutputId) : State :=
  if (s.output o).state = .settle then (s.putOutput o { s.output o with state := .off }).review else s

/-- A RECOVER entry due on channel `ch` (R129). -/
def State.recoverDue (s : State) (ch : FaultId) : State :=
  if (s.fault ch).state = .recovering then s.recover ch else s

/-- A QUIET entry due on channel `ch` (R130). -/
def State.quietDue (s : State) (ch : FaultId) : State := if (s.fault ch).state = .idle then s.quiet ch else s

/-- The owner's rule for a due entry (R80). -/
def State.deliver (s : State) : Key → State
  | .lease i => s.leaseDue i
  | .offer i => s.offerDue i
  | .wait i => s.waitDue i
  | .settle o => s.settleDue o
  | .recover ch => s.recoverDue ch
  | .quiet ch => s.quietDue ch

/-- The front entry of the expiry queue is the one for `k`, and it is due now (R79). -/
def State.frontDue (s : State) (k : Key) : Bool :=
  match s.expiry with
  | [] => false
  | e :: _ => e.deadline == s.clock && e.key == k

/-- Take the front entry out of the queue and hand it to its owner (R79). -/
def State.deliverFront (s : State) (k : Key) : State := { s with expiry := s.expiry.tail }.deliver k

/-- The delivery of the entry for `k`, one event of its own. Entries are delivered from the front of the queue and only
when due (R79); otherwise nothing falls due and nothing happens (assumption 9). -/
def State.dueEvent (s : State) (k : Key) : State :=
  if s.power = .running ∧ s.frontDue k = true then s.deliverFront k else s

/-- Deliver the entries due now, front first, at most `n` of them (R79). -/
def deliverDue : Nat → State → State
  | 0, s => s
  | n + 1, s =>
    match s.expiry with
    | [] => s
    | e :: _ => if e.deadline = s.clock then deliverDue n (s.deliverFront e.key) else s

/-- Take every event of this tick that is still due: the deliveries, then the changes of filtered level. An entry inserted
meanwhile lies at least one tick ahead (R73), so the entries due are among those now in the queue. -/
def State.finishTick (s : State) : State := (deliverDue s.expiry.length s).takeChanges

/-- CLOCK_ADVANCE (R72): the events of the tick that ends are completed, the clock goes up by one and wraps after
4294967295, the enabled fault channels sample their inputs (R122), and the entries due at the new value are delivered
(R79): within the advance, or each by its own row. The clock holds 0 in reset and the internal start. -/
def execClockAdvance (lines : Vector Bool 4) (how : Delivery) (s : State) : Host.Outcome State Fault Refusal :=
  .next <|
    if s.power = .running then
      let t := s.finishTick
      let t := ({ t with clock := t.clock + 1 }).sampleFaults lines
      match how with
      | .within => t.finishTick
      | .stepwise => t
    else s

/-- LEASE_EXPIRY (R83). -/
def execLeaseExpiry (i : SlotId) (s : State) : Host.Outcome State Fault Refusal := .next (s.dueEvent (.lease i))

/-- OFFER_TIMEOUT (R113). -/
def execOfferTimeout (i : SlotId) (s : State) : Host.Outcome State Fault Refusal := .next (s.dueEvent (.offer i))

/-- WAIT_EXPIRY (R62). -/
def execWaitExpiry (i : SlotId) (s : State) : Host.Outcome State Fault Refusal := .next (s.dueEvent (.wait i))

/-- SETTLE_END (R34). -/
def execSettleEnd (o : OutputId) (s : State) : Host.Outcome State Fault Refusal := .next (s.dueEvent (.settle o))

/-- RECOVER_DUE (R129). -/
def execRecoverDue (ch : FaultId) (s : State) : Host.Outcome State Fault Refusal := .next (s.dueEvent (.recover ch))

/-- QUIET_DUE (R130). -/
def execQuietDue (ch : FaultId) (s : State) : Host.Outcome State Fault Refusal := .next (s.dueEvent (.quiet ch))

end Sys2Proof.Machine
end

