-- ==== Sys2Proof/Machine/Counts.lean ====
section
/-! DEFINITION. Count channels and count-bounded leases (chapter 5): sampling, counted edges and their charging, SET_COUNT,
READ_COUNTS and EXTEND. -/

namespace Sys2Proof.Machine

/-- A change of the filtered level to `level` is in the direction the channel counts (R93). -/
def CountChannel.counts (k : CountChannel) (level : Bool) : Bool :=
  match k.edge with
  | .rising => level
  | .falling => !level
  | .both => true

/-- A sample at `level` changes the filtered level: it equals the last sample and differs from the filtered level (R92). -/
def CountChannel.takesUp (k : CountChannel) (level : Bool) : Bool := level == k.lastSample && level != k.filtered

/-- A sample at `level` makes a counted edge (R93). -/
def CountChannel.edgeAt (k : CountChannel) (level : Bool) : Bool := k.takesUp level && k.counts level

/-- The channel after a sample at `level`, its total apart (R92). -/
def CountChannel.sampled (k : CountChannel) (level : Bool) : CountChannel :=
  { k with filtered := if k.takesUp level then level else k.filtered, lastSample := level }

/-- Slot `i` holds a live lease bound to channel `ch`, with this record and count bound (R95). -/
def State.boundTo (s : State) (ch : CountId) (i : SlotId) : Option (Lease × CountBound) :=
  match s.leaseAt i with
  | none => none
  | some l =>
    match l.count with
    | none => none
    | some k => if l.phase.isLive && k.channel == ch then some (l, k) else none

/-- The counted edge spends the budget of the lease in slot `i` (R95). -/
def State.spentBy (s : State) (ch : CountId) (i : SlotId) : Bool :=
  match s.boundTo ch i with
  | some (_, k) => k.spent + 1 == k.budget
  | none => false

/-- One edge charged to slot `i`: the spent count rises by 1, and a lease whose budget is spent ends COUNT_SPENT (R95,
R96). -/
def chargeSlot (ch : CountId) (s : State) (i : SlotId) : State :=
  match s.boundTo ch i with
  | none => s
  | some (l, k) =>
    let t := s.putLease i (some { l with count := some { k with spent := k.spent + 1 } })
    if k.spent + 1 = k.budget then t.endLease i .countSpent none else t

/-- A counted edge on channel `ch` (R94, R95): the total rises by 1 modulo 2²⁴, every live lease bound to the channel is
charged in ascending slot order, and one review follows when the edge ended a lease. -/
def State.countEdge (s : State) (ch : CountId) : State :=
  let t := s.putCount ch { s.count ch with total := (s.count ch).total + 1 }
  let asked := (List.finRange 32).any (t.spentBy ch)
  ((List.finRange 32).foldl (chargeSlot ch) t).reviewIf asked

/-- A sample of channel `ch` at `level`, with the counted edge it makes if it makes one (R92, R93). The edge that a restart
makes is one of these: where the sender puts START and a REQUEST ahead of the channel's second sample, it charges as any
other edge does (R95), though R99 has it taken in SETUP, where it reaches no lease (DESIGN CHOICE, assumption 26). -/
def State.sampleCount (s : State) (ch : CountId) (level : Bool) : State :=
  let k := s.count ch
  let t := { s with pins := { s.pins with count := s.pins.count.set ch level } }
  let t := t.putCount ch (k.sampled level)
  if k.edgeAt level then t.countEdge ch else t

/-- COUNT_SAMPLE (R92): an enabled channel samples its line; a disabled one takes no sample, and none is taken in reset or
the internal start (R163). -/
def execCountSample (ch : CountId) (level : Bool) (s : State) : Host.Outcome State Fault Refusal :=
  .next (if s.power = .running ∧ (s.count ch).enabled = true then s.sampleCount ch level else s)

/-- COUNTED_EDGE (R95): the sample that makes a counted edge, which is a sample at the level the filtered level does not
have. Where the channel's last sample, edge setting or enablement allow no counted edge now, none happens
(assumption 9). -/
def execCountedEdge (ch : CountId) (s : State) : Host.Outcome State Fault Refusal :=
  .next <|
    if s.power = .running ∧ (s.count ch).enabled = true ∧ (s.count ch).edgeAt (!(s.count ch).filtered) = true then
      s.sampleCount ch (!(s.count ch).filtered)
    else s

/-- SET_COUNT (R98): writes the settings of one count channel in SETUP and restarts it with its total at 0. -/
def setCountBody : Body := fun _ p s =>
  if s.mode = .run then (s, .refuse .wrongMode)
  else match p with
    | [ch, en, ed, iv] =>
      match toCount ch, toFlag en, toEdge ed, toInterval iv with
      | some ch, some en, some ed, some iv =>
        (s.putCount ch { enabled := en, edge := ed, interval := iv, lastSample := false, filtered := false, total := 0 },
          .ok [])
      | _, _, _, _ => (s, .refuse .badParameter)
    | _ => (s, .refuse .badLength)

/-- READ_COUNTS (R100): the four totals and the lease clock. -/
def readCountsBody : Body := fun _ _ s =>
  (s, .ok (((List.finRange 4).flatMap fun ch => leBytes 3 (s.count ch).total.toNat) ++ tickBytes s.clock))

/-- EXTEND (R101): raises the budget of a live count-bound lease. -/
def extendBody : Body := fun c p s =>
  match p with
  | [sl, g, a0, a1] =>
    forHolder c sl g s fun i l =>
      match l.phase with
      | .waiting _ => (s, .refuse .wrongState)
      | .ended _ _ _ _ => (s, .refuse .tooLate)
      | .live _ _ => extendLive i l (u16 a0 a1) s
      | .offered _ _ _ _ => extendLive i l (u16 a0 a1) s
  | _ => (s, .refuse .badLength)
where
  /-- The fourth check of R101 and the raise. -/
  extendLive (i : SlotId) (l : Lease) (add : Nat) (s : State) : State × Reply :=
    match l.count with
    | none => (s, .refuse .badParameter)
    | some k =>
      if 1 ≤ add ∧ k.budget + add ≤ Config.maxBudget then
        (s.putLease i (some { l with count := some { k with budget := k.budget + add } }),
          .ok (leBytes 2 (k.budget + add) ++ leBytes 2 k.spent))
      else (s, .refuse .badParameter)

/-- SET_COUNT (R98). -/
def execSetCount (f : Frame) (s : State) : Host.Outcome State Fault Refusal :=
  .next (frameRow 0x35 (accept setCountBody) f s)

/-- READ_COUNTS (R100). -/
def execReadCounts (f : Frame) (s : State) : Host.Outcome State Fault Refusal :=
  .next (frameRow 0x28 (accept readCountsBody) f s)

/-- EXTEND (R101). -/
def execExtend (f : Frame) (s : State) : Host.Outcome State Fault Refusal :=
  .next (frameRow 0x13 (accept extendBody) f s)

end Sys2Proof.Machine
end

