-- ==== Sys2Proof/Machine/Modes.lean ====
section
/-! DEFINITION. Operating modes, READ_SETTINGS, device reset and start-up (chapter 9). -/

namespace Sys2Proof.Machine

/-- START (R157): in SETUP the mode becomes RUN, and every other OPEN session receives MODE. -/
def startBody : Body := fun _ _ s =>
  match s.mode with
  | .run => (s, .refuse .wrongMode)
  | .setup => ({ s with mode := .run }.notifyMode, .ok [])

/-- Slot `i` holds a live lease. -/
def State.liveAt (s : State) (i : SlotId) : Bool :=
  match s.leaseAt i with
  | some l => l.phase.isLive
  | none => false

/-- Every slot of a list ends HALTED, in the list's order, with no review (R159). -/
def State.haltAll (s : State) (is : List SlotId) : State := is.foldl (fun t i => t.endLease i .halted none) s

/-- HALT (R159), its steps in order: the waiting requests from head to tail, the live leases in ascending slot order (their
outputs fall as they end), the mode, MODE. The result is the two numbers ended. -/
def haltBody : Body := fun _ _ s =>
  match s.mode with
  | .setup => (s, .refuse .wrongMode)
  | .run =>
    let t := s.haltAll s.waitQueue
    let live := (List.finRange 32).filter t.liveAt
    let u := t.haltAll live
    ({ u with mode := .setup }.notifyMode, .ok [byte s.waitQueue.length, byte live.length])

/-- The settings of one output as READ_SETTINGS reports them (R162). -/
def Output.settingBytes (x : Output) : List Byte := leBytes 3 x.maxTerm ++ leBytes 2 x.gap ++ [x.drive.code]

/-- The settings of one fault channel as READ_SETTINGS reports them (R162). -/
def FaultChannel.settingBytes (x : FaultChannel) : List Byte :=
  [bitByte x.enabled, bitByte (!x.activeHigh), byte x.filterSamples, x.cutSet] ++ leBytes 2 x.recoveryDelay ++
    [byte x.latchLimit] ++ leBytes 3 x.quietPeriod

/-- The settings of one count channel as READ_SETTINGS reports them (R162). -/
def CountChannel.settingBytes (x : CountChannel) : List Byte := [bitByte x.enabled, x.edge.code, x.interval.code]

/-- One section of the settings (R162), none for a section code above 04h. -/
def State.section (s : State) (code : Byte) : Option (List Byte) :=
  if code = 0x00 then some ((List.finRange 8).flatMap fun o => (s.output o).settingBytes)
  else if code = 0x01 then some ((List.finRange 8).map fun o => (s.output o).partners)
  else if code = 0x02 then some ((List.finRange 4).flatMap fun ch => (s.fault ch).settingBytes)
  else if code = 0x03 then some ((List.finRange 4).flatMap fun ch => (s.count ch).settingBytes)
  else if code = 0x04 then
    some (((List.finRange 8).map fun c => byte (s.session c).quota) ++
      (List.finRange 8).map fun c => byte (s.occupied c))
  else none

/-- READ_SETTINGS (R162): reports one section of the settings. -/
def readSettingsBody : Body := fun _ p s =>
  match p with
  | [code] =>
    match s.section code with
    | some bs => (s, .ok bs)
    | none => (s, .refuse .badParameter)
  | _ => (s, .refuse .badLength)

/-- START (R157). -/
def execStart (f : Frame) (s : State) : Host.Outcome State Fault Refusal :=
  .next (frameRow 0x30 (accept startBody) f s)

/-- HALT (R159). -/
def execHalt (f : Frame) (s : State) : Host.Outcome State Fault Refusal :=
  .next (frameRow 0x31 (accept haltBody) f s)

/-- READ_SETTINGS (R162). -/
def execReadSettings (f : Frame) (s : State) : Host.Outcome State Fault Refusal :=
  .next (frameRow 0x3B (accept readSettingsBody) f s)

/-! ### Device reset and start-up (9.5) -/

/-- Every block at its reset values (R163), with the levels on the input pins and the waiting commands, which come from
outside the part, as they stand. -/
def State.cleared (s : State) (pins : Pins) (power : Power) : State :=
  { State.reset with power := power, pins := pins, pending := s.pending }

/-- DEVICE_RESET (R163): every block is held at its reset values, the G lines go low, ATN and SDA are released. A
frame resent after the reset that discarded it finds its session CLOSED and is answered NOT_OPEN (R164, R165), where R178's
recovery table has it carried out as the next sequence (DESIGN CHOICE, assumption 27). -/
def execDeviceReset (cause : ResetCause) (s : State) : Host.Outcome State Fault Refusal :=
  .next <|
    match cause with
    | .rstnLow => s.cleared { s.pins with rstn := false } .inReset
    | .supplyLow => s.cleared { s.pins with vdd := false } .inReset

/-- RSTN_RISE (R163): with RSTN high and the supply in range the internal start begins, with every block still at its reset
values. While either is missing the part stays in reset; a part that is not in reset is left as it is. -/
def execRstnRise (cause : RiseCause) (s : State) : Host.Outcome State Fault Refusal :=
  .next <|
    let p := match cause with
      | .rstnHigh => { s.pins with rstn := true }
      | .supplyInRange => { s.pins with vdd := true }
    if s.power = .inReset then
      if p.rstn = true ∧ p.vdd = true then s.cleared p .starting else s.cleared p .inReset
    else s

/-- The address for the levels of AD1 and AD0: 5Ah + 2·AD1 + AD0 (R166). -/
def addressFor (ad1 ad0 : Bool) : BitVec 7 :=
  Config.baseAddress + (if ad1 then 2 else 0) + (if ad0 then 1 else 0)

/-- INTERNAL_START_END (R163): AD1 and AD0 are read, the link takes its address and begins to acknowledge it; every block is
still at its reset values. It follows an internal start only. -/
def execInternalStartEnd (ad1 ad0 : Bool) (s : State) : Host.Outcome State Fault Refusal :=
  .next <|
    if s.power = .starting then
      { s.cleared { s.pins with ad1 := ad1, ad0 := ad0 } .running with
        link := { Link.reset with address := addressFor ad1 ad0 } }
    else s

end Sys2Proof.Machine
end

