-- ==== Sys2Proof/Machine/Outputs.lean ====
section
/-! DEFINITION. The commands that configure the outputs and the exclusion relation (2.7, 2.8). -/

namespace Sys2Proof.Machine

/-- SET_OUTPUT (R45): writes the max term, settle gap and drive level of one output in SETUP; its line moves at once to the
new level. State, cut-by set and partners are kept. -/
def setOutputBody : Body := fun _ p s =>
  if s.mode = .run then (s, .refuse .wrongMode)
  else match p with
    | [o, m0, m1, m2, g0, g1, d] =>
      match toOutput o, toDrive d with
      | some o, some d =>
        if u24 m0 m1 m2 ≤ Config.maxTicks ∧ u16 g0 g1 ≤ Config.maxGap then
          (s.putOutput o { s.output o with maxTerm := u24 m0 m1 m2, gap := u16 g0 g1, drive := d }, .ok [])
        else (s, .refuse .badParameter)
      | _, _ => (s, .refuse .badParameter)
    | _ => (s, .refuse .badLength)

/-- Write the partner set of one output. -/
def State.putPartners (s : State) (o : OutputId) (P : OutputSet) : State :=
  { s with outputs := s.outputs.set o { s.output o with partners := P } }

/-- Set or clear the pair of `a` and `b` in the exclusion relation, on both sides (R46). -/
def State.setPair (s : State) (a b : OutputId) (present : Bool) : State :=
  if present then
    let t := s.putPartners a ((s.output a).partners ||| oneOutput b)
    t.putPartners b ((t.output b).partners ||| oneOutput a)
  else
    let t := s.putPartners a ((s.output a).partners &&& ~~~(oneOutput b))
    t.putPartners b ((t.output b).partners &&& ~~~(oneOutput a))

/-- SET_EXCLUSION (R46): sets or clears one pair of the exclusion relation in SETUP. -/
def setExclusionBody : Body := fun _ p s =>
  if s.mode = .run then (s, .refuse .wrongMode)
  else match p with
    | [a, b, flag] =>
      match toOutput a, toOutput b, toFlag flag with
      | some a, some b, some present =>
        if a = b then (s, .refuse .badParameter) else (s.setPair a b present, .ok [])
      | _, _, _ => (s, .refuse .badParameter)
    | _ => (s, .refuse .badLength)

/-- SET_OUTPUT (R45). -/
def execSetOutput (f : Frame) (s : State) : Host.Outcome State Fault Refusal :=
  .next (frameRow 0x32 (accept setOutputBody) f s)

/-- SET_EXCLUSION (R46). -/
def execSetExclusion (f : Frame) (s : State) : Host.Outcome State Fault Refusal :=
  .next (frameRow 0x33 (accept setExclusionBody) f s)

end Sys2Proof.Machine
end

