-- ==== Sys2Proof/Machine/Sessions.lean ====
section
/-! DEFINITION. Client sessions, quotas and notices (chapter 8). -/

namespace Sys2Proof.Machine

/-! ### OPEN (8.3) -/

/-- The epoch of the next opening: raised by 1, and 255 becomes 1 (R142). -/
def nextEpoch (e : Byte) : Byte := if e = 0xFF then 0x01 else e + 1

/-- The opening of a session, steps 2 to 6 of R143, on a CLOSED session. -/
def State.openFresh (s : State) (r : Received) : State :=
  let x := s.session r.client
  let e := nextEpoch x.epoch
  let answer : Response :=
    { client := r.client, epoch := e, seq := r.seq, code := r.code, status := .ok, results := [e] }
  (s.putSession r.client
    { x with
      opened := some { lastSeq := r.seq, cache := answer }
      epoch := e
      response := some answer
      notices := 0
      mask := allNotices
      outcome := none }).updateAtn

/-- OPEN (R143, R144, R176): the length is checked first, then SEN for client 0, both answered in the slot alone; an OPEN
that passes closes an OPEN session in full and opens the new one. SEN is read for client 0 only, and its level is then the
pin's. -/
def openFrame (sen : Bool) (r : Received) (s : State) : State :=
  if r.params.length ≠ 0 then s.answerSlot r (.refuse .badLength)
  else
    let s := if r.client = 0 then { s with pins := { s.pins with sen := sen } } else s
    if r.client = 0 ∧ sen = false then s.answerSlot r (.refuse .notPermitted)
    else
      let t := if s.isOpen r.client then s.closeFull r.client else s
      t.openFresh r

/-! ### CLOSE, FORCE_CLOSE and SET_QUOTA (8.4, 8.5) -/

/-- CLOSE (R146): the sender's own session is closed in full. -/
def closeBody : Body := fun c _ s => (s.closeFull c, .ok [])

/-- FORCE_CLOSE (R147): the supervisor closes another client's OPEN session in full. -/
def forceCloseBody : Body := fun _ p s =>
  match p with
  | [b] =>
    match toClient b with
    | none => (s, .refuse .badParameter)
    | some v =>
      if v = 0 then (s, .refuse .badParameter)
      else if s.isOpen v then (s.closeFull v, .ok [])
      else (s, .refuse .wrongState)
  | _ => (s, .refuse .badLength)

/-- SET_QUOTA (R149): sets one client's quota in SETUP, no lower than its number of occupied slots. -/
def setQuotaBody : Body := fun _ p s =>
  if s.mode = .run then (s, .refuse .wrongMode)
  else match p with
    | [b, q] =>
      match toClient b with
      | none => (s, .refuse .badParameter)
      | some v =>
        if Config.maxQuota < q.toNat ∨ q.toNat < s.occupied v then (s, .refuse .badParameter)
        else (s.putSession v { s.session v with quota := q.toNat }, .ok [])
    | _ => (s, .refuse .badLength)

/-! ### Notices and STATUS (8.6 to 8.9) -/

/-- SET_NOTICE_MASK (R151): replaces the sender's mask and brings ATN up to date. -/
def setNoticeMaskBody : Body := fun c p s =>
  match p with
  | [m] =>
    if m.toNat < 64 then
      ((s.putSession c { s.session c with mask := m.truncate 6 }).updateAtn, .ok [])
    else (s, .refuse .badParameter)
  | _ => (s, .refuse .badLength)

/-- The three bytes of an offer outcome record, FFh each when it is absent (R116). -/
def outcomeBytes : Option (Handle × Outcome) → List Byte
  | some (h, o) => h.bytes ++ [o.code]
  | none => absent 3

/-- READ_NOTICES (R153): reports the pending set and the outcome record, clears the pending set and brings ATN up to
date. -/
def readNoticesBody : Body := fun c _ s =>
  ((s.putSession c { s.session c with notices := 0 }).updateAtn,
    .ok ([noticeByte (s.session c).notices] ++ outcomeBytes (s.session c).outcome))

/-- STATUS (R154): the 20-byte snapshot. -/
def statusBody : Body := fun c _ s =>
  (s, .ok ([s.mode.code] ++ tickBytes s.clock ++ ((List.finRange 8).map fun o => (s.output o).state.code) ++
    [byte s.freeSlots.length, byte s.waitQueue.length] ++ ((List.finRange 4).map fun ch => (s.fault ch).state.code) ++
    [noticeByte (s.session c).notices]))

/-- OPEN (R143). -/
def execOpenSession (f : Frame) (sen : Bool) (s : State) : Host.Outcome State Fault Refusal :=
  .next (frameRow 0x01 (openFrame sen) f s)

/-- CLOSE (R146). -/
def execCloseSession (f : Frame) (s : State) : Host.Outcome State Fault Refusal :=
  .next (frameRow 0x02 (accept closeBody) f s)

/-- READ_NOTICES (R153). -/
def execReadNotices (f : Frame) (s : State) : Host.Outcome State Fault Refusal :=
  .next (frameRow 0x03 (accept readNoticesBody) f s)

/-- SET_NOTICE_MASK (R151). -/
def execSetNoticeMask (f : Frame) (s : State) : Host.Outcome State Fault Refusal :=
  .next (frameRow 0x04 (accept setNoticeMaskBody) f s)

/-- STATUS (R154). -/
def execStatus (f : Frame) (s : State) : Host.Outcome State Fault Refusal :=
  .next (frameRow 0x05 (accept statusBody) f s)

/-- SET_QUOTA (R149). -/
def execSetQuota (f : Frame) (s : State) : Host.Outcome State Fault Refusal :=
  .next (frameRow 0x36 (accept setQuotaBody) f s)

/-- FORCE_CLOSE (R147). -/
def execForceClose (f : Frame) (s : State) : Host.Outcome State Fault Refusal :=
  .next (frameRow 0x39 (accept forceCloseBody) f s)

end Sys2Proof.Machine
end

