-- ==== Sys2Proof/Machine/Transfer.lean ====
section
/-! DEFINITION. Lease transfer (chapter 6): OFFER, ACCEPT, DECLINE and WITHDRAW, and the offer's timeout. -/

namespace Sys2Proof.Machine

/-- OFFER (R107): the holder offers a LIVE lease to another OPEN client for 1 to 10000 ticks. Its OFFER
entry stands behind a LEASE entry of the same deadline (R76; DESIGN CHOICE against R82's bullets, assumption 25). -/
def offerBody : Body := fun c p s =>
  match p with
  | [sl, g, rcv, t0, t1] =>
    forHolder c sl g s fun i l =>
      match l.phase with
      | .offered _ _ _ _ => (s, .refuse .wrongState)
      | .waiting _ => (s, .refuse .wrongState)
      | .ended _ _ _ _ => (s, .refuse .tooLate)
      | .live ga d =>
        match toClient rcv with
        | none => (s, .refuse .badParameter)
        | some r =>
          if s.isOpen r = true ∧ r ≠ c ∧ 1 ≤ u16 t0 t1 ∧ u16 t0 t1 ≤ Config.maxOfferTime then
            let od := s.after (u16 t0 t1)
            let t := s.putLease i (some { l with phase := .offered ga d r od })
            ((t.schedule (.offer i) (u16 t0 t1)).notify r .offerIn, .ok (tickBytes od))
          else (s, .refuse .badParameter)
  | _ => (s, .refuse .badLength)

/-- The checks of ACCEPT and DECLINE in the order of R109: an invalid handle, an ENDED lease, an offer to the caller, and
WRONG_STATE in every other case. -/
def forReceiver (c : Client) (slotByte gen : Byte) (s : State) (act : SlotId → Lease → Tick → Tick → State × Reply) :
    State × Reply :=
  match s.named slotByte gen with
  | none => (s, .refuse .staleHandle)
  | some (i, l) =>
    match l.phase with
    | .ended _ _ _ _ => (s, .refuse .tooLate)
    | .offered ga d r _ => if r = c then act i l ga d else (s, .refuse .wrongState)
    | .live _ _ => (s, .refuse .wrongState)
    | .waiting _ => (s, .refuse .wrongState)

/-- ACCEPT (R109, R110): after the quota check the receiver becomes the holder and the lease returns to LIVE with its
deadline. -/
def acceptBody : Body := fun c p s =>
  match p with
  | [sl, g] =>
    forReceiver c sl g s fun i l ga d =>
      if (s.session c).quota ≤ s.occupied c then (s, .refuse .quotaExceeded)
      else
        let t := (s.unschedule (.offer i)).putLease i (some { l with holder := c, phase := .live ga d })
        ((t.setOutcome l.holder (s.handleOf i) .accepted).notify l.holder .offerOut, .ok (tickBytes d))
  | _ => (s, .refuse .badLength)

/-- DECLINE (R111): the lease returns to LIVE with the giver. -/
def declineBody : Body := fun c p s =>
  match p with
  | [sl, g] =>
    forReceiver c sl g s fun i l _ _ => ((s.resolveOffer i .declined).notify l.holder .offerOut, .ok [])
  | _ => (s, .refuse .badLength)

/-- WITHDRAW (R112): the giver takes back a pending offer; no notice is set. -/
def withdrawBody : Body := fun c p s =>
  match p with
  | [sl, g] =>
    forHolder c sl g s fun i l =>
      match l.phase with
      | .offered _ _ _ _ => (s.resolveOffer i .withdrawn, .ok [])
      | .live _ _ => (s, .refuse .wrongState)
      | .waiting _ => (s, .refuse .wrongState)
      | .ended _ _ _ _ => (s, .refuse .tooLate)
  | _ => (s, .refuse .badLength)

/-- OFFER (R107). -/
def execOffer (f : Frame) (s : State) : Host.Outcome State Fault Refusal :=
  .next (frameRow 0x20 (accept offerBody) f s)

/-- ACCEPT (R109). -/
def execAccept (f : Frame) (s : State) : Host.Outcome State Fault Refusal :=
  .next (frameRow 0x21 (accept acceptBody) f s)

/-- DECLINE (R111). -/
def execDecline (f : Frame) (s : State) : Host.Outcome State Fault Refusal :=
  .next (frameRow 0x22 (accept declineBody) f s)

/-- WITHDRAW (R112). -/
def execWithdraw (f : Frame) (s : State) : Host.Outcome State Fault Refusal :=
  .next (frameRow 0x23 (accept withdrawBody) f s)

end Sys2Proof.Machine
end

