-- ==== Sys2Proof/Machine/Dispatch.lean ====
section
/-! DEFINITION. The dispatch: one arm per command, each one call of its meaning. -/

namespace Sys2Proof.Machine

def exec (i : Instr) (s : State) : Host.Outcome State Fault Refusal :=
  match i with
  | .openSession f sen => Sys2Proof.Machine.execOpenSession f sen s
  | .closeSession f => Sys2Proof.Machine.execCloseSession f s
  | .readNotices f => Sys2Proof.Machine.execReadNotices f s
  | .setNoticeMask f => Sys2Proof.Machine.execSetNoticeMask f s
  | .status f => Sys2Proof.Machine.execStatus f s
  | .request f => Sys2Proof.Machine.execRequest f s
  | .release f => Sys2Proof.Machine.execRelease f s
  | .renew f => Sys2Proof.Machine.execRenew f s
  | .extend f => Sys2Proof.Machine.execExtend f s
  | .ackEnd f => Sys2Proof.Machine.execAckEnd f s
  | .query f => Sys2Proof.Machine.execQuery f s
  | .list f => Sys2Proof.Machine.execList f s
  | .offer f => Sys2Proof.Machine.execOffer f s
  | .accept f => Sys2Proof.Machine.execAccept f s
  | .decline f => Sys2Proof.Machine.execDecline f s
  | .withdraw f => Sys2Proof.Machine.execWithdraw f s
  | .readCounts f => Sys2Proof.Machine.execReadCounts f s
  | .start f => Sys2Proof.Machine.execStart f s
  | .halt f => Sys2Proof.Machine.execHalt f s
  | .setOutput f => Sys2Proof.Machine.execSetOutput f s
  | .setExclusion f => Sys2Proof.Machine.execSetExclusion f s
  | .setFault f => Sys2Proof.Machine.execSetFault f s
  | .setCount f => Sys2Proof.Machine.execSetCount f s
  | .setQuota f => Sys2Proof.Machine.execSetQuota f s
  | .revoke f => Sys2Proof.Machine.execRevoke f s
  | .releaseFault f => Sys2Proof.Machine.execReleaseFault f s
  | .forceClose f => Sys2Proof.Machine.execForceClose f s
  | .faultStatus f => Sys2Proof.Machine.execFaultStatus f s
  | .readSettings f => Sys2Proof.Machine.execReadSettings f s
  | .unknownCommand f code => Sys2Proof.Machine.execUnknownCommand f code s
  | .selectorWrite addr b => Sys2Proof.Machine.execSelectorWrite addr b s
  | .frameDiscarded addr bytes ended => Sys2Proof.Machine.execFrameDiscarded addr bytes ended s
  | .linkTimeout onBus => Sys2Proof.Machine.execLinkTimeout onBus s
  | .deviceReset cause => Sys2Proof.Machine.execDeviceReset cause s
  | .rstnRise cause => Sys2Proof.Machine.execRstnRise cause s
  | .internalStartEnd ad1 ad0 => Sys2Proof.Machine.execInternalStartEnd ad1 ad0 s
  | .clockAdvance lines how => Sys2Proof.Machine.execClockAdvance lines how s
  | .leaseExpiry n => Sys2Proof.Machine.execLeaseExpiry n s
  | .offerTimeout n => Sys2Proof.Machine.execOfferTimeout n s
  | .waitExpiry n => Sys2Proof.Machine.execWaitExpiry n s
  | .settleEnd o => Sys2Proof.Machine.execSettleEnd o s
  | .recoverDue ch => Sys2Proof.Machine.execRecoverDue ch s
  | .quietDue ch => Sys2Proof.Machine.execQuietDue ch s
  | .faultTrip ch => Sys2Proof.Machine.execFaultTrip ch s
  | .faultClear ch => Sys2Proof.Machine.execFaultClear ch s
  | .latchedLevelChange ch => Sys2Proof.Machine.execLatchedLevelChange ch s
  | .countedEdge ch => Sys2Proof.Machine.execCountedEdge ch s
  | .countSample ch level => Sys2Proof.Machine.execCountSample ch level s

end Sys2Proof.Machine
end

