-- ==== Sys2Proof/Machine/Bus.lean ====
section
/-! DEFINITION. The bus under the link (10.1): the conditions START, STOP and bit as the levels of SCL and SDA make them, the
bytes and the address byte of a transaction, and the row of the table that a write transaction is. The part only watches
SCL: nothing here or in Machine/Link.lean holds it low (R166). -/

namespace Sys2Proof.Machine

/-- The levels of the two wires at one instant, true for high. Several drivers may hold SDA low, the part among them
(`Link.drivingSda`); this is the level they leave on the wire. -/
structure Wires where
  scl : Bool
  sda : Bool
deriving DecidableEq, Repr

/-- What the receiver sees on the bus (R166). -/
inductive BusEvent where
  | start
  | stop
  | bit (level : Bool)
deriving DecidableEq, Repr

/-- The event that a change of the levels from `w` to `v` makes (R166): a fall of SDA while SCL is high is a START and a rise
a STOP; a bit is taken when SCL goes high (the instant is a DESIGN CHOICE, assumption 16). -/
def Wires.event (w v : Wires) : Option BusEvent :=
  match w.scl, v.scl with
  | true, true => if w.sda && !v.sda then some .start else if !w.sda && v.sda then some .stop else none
  | false, true => some (.bit v.sda)
  | true, false => none
  | false, false => none

/-- The events of a course of levels that starts from `w` (R166). -/
def busEvents (w : Wires) : List Wires → List BusEvent
  | [] => []
  | v :: vs => (w.event v).toList ++ busEvents v vs

/-- What lies between a START and the STOP or START after it (R166): the bits taken, the acknowledge bits among them, and
whether the end has come. -/
structure Transaction where
  bits  : List Bool
  ended : Bool
deriving DecidableEq, Repr

/-- The transactions of a course of events, with the bits of the one in progress (R166, R167). A START with no STOP since the
last one ends a transaction and begins the next; bits outside a transaction are none of the part's. -/
def transactions : Option (List Bool) → List BusEvent → List Transaction
  | none, [] => []
  | some bits, [] => [⟨bits, false⟩]
  | none, .start :: es => transactions (some []) es
  | some bits, .start :: es => ⟨bits, true⟩ :: transactions (some []) es
  | none, .stop :: es => transactions none es
  | some bits, .stop :: es => ⟨bits, true⟩ :: transactions none es
  | none, .bit _ :: es => transactions none es
  | some bits, .bit b :: es => transactions (some (bits ++ [b])) es

/-- A byte from its bits, most significant first (R166). -/
def byteOfBits (bits : List Bool) : Byte := bits.foldl (fun v b => (v <<< 1) ||| bitByte b) 0

/-- The bytes of a transaction: eight bits each, with the acknowledge bit behind them (R166). Bits short of a ninth, such as
the one taken as SCL rises for a STOP, belong to no byte. -/
def bytesOfBits : List Bool → List Byte
  | b7 :: b6 :: b5 :: b4 :: b3 :: b2 :: b1 :: b0 :: _ack :: rest =>
    byteOfBits [b7, b6, b5, b4, b3, b2, b1, b0] :: bytesOfBits rest
  | _ => []

/-- The 7-bit address that an address byte carries (R166). -/
def addressOf (a : Byte) : BitVec 7 := a.extractLsb' 1 7

/-- The direction bit of an address byte: set for a read, clear for a write (R166). -/
def isRead (a : Byte) : Bool := a.getLsbD 0

/-- The part acknowledges this address byte (R166): it carries the part's address, with either direction bit. -/
def State.acksAddress (s : State) (a : Byte) : Bool := s.hears (addressOf a)

/-- The row of the command table for each command code (R180); `sen` is the level of SEN, which OPEN carries (R144). -/
def frameRows (sen : Bool) : List (Byte × (Frame → Instr)) :=
  [ (0x01, fun f => .openSession f sen), (0x02, .closeSession), (0x03, .readNotices), (0x04, .setNoticeMask),
    (0x05, .status), (0x10, .request), (0x11, .release), (0x12, .renew), (0x13, .extend), (0x14, .ackEnd),
    (0x15, .query), (0x16, .list), (0x20, .offer), (0x21, .accept), (0x22, .decline), (0x23, .withdraw),
    (0x28, .readCounts), (0x30, .start), (0x31, .halt), (0x32, .setOutput), (0x33, .setExclusion), (0x34, .setFault),
    (0x35, .setCount), (0x36, .setQuota), (0x37, .revoke), (0x38, .releaseFault), (0x39, .forceClose),
    (0x3A, .faultStatus), (0x3B, .readSettings) ]

/-- The row that a frame with command code `code` is: its command's, and UNKNOWN_COMMAND where the code names none. -/
def instrOfFrame (sen : Bool) (code : Byte) (f : Frame) : Instr :=
  match (frameRows sen).find? fun r => r.1 == code with
  | some r => r.2 f
  | none => .unknownCommand f code

/-- The row that a write of the data bytes `bs` to `addr` is, if it is one (R168, R170, R172): a frame or a selector write
once its end condition has come, a discarded frame once it is refused or has ended short. A write of no data byte is no row;
neither is one still going on that nothing has been refused of. -/
def instrOfWrite (sen : Bool) (addr : BitVec 7) (bs : List Byte) (ended : Bool) : Option Instr :=
  let l := Link.reset.receive bs
  match l.rx, ended with
  | .complete, true =>
    let r := receivedOf l.partialFrame
    some (instrOfFrame sen r.code
      { addr := addr, client := byte r.client, epoch := r.epoch, seq := r.seq, params := r.params
        check := l.partialFrame.getLastD 0 })
  | .selector _, true => some (.selectorWrite addr (bs.headD 0))
  | .frame, true => some (.frameDiscarded addr bs true)
  | .discard, ended => some (.frameDiscarded addr bs ended)
  | .complete, false => none
  | .selector _, false => none
  | .frame, false => none
  | .idle, _ => none
  | .read, _ => none

/-- The row that a transaction is, if it is one. A read is none: `State.readTransaction` says what it returns. -/
def Transaction.instr? (sen : Bool) (x : Transaction) : Option Instr :=
  match bytesOfBits x.bits with
  | [] => none
  | a :: bs => if isRead a then none else instrOfWrite sen (addressOf a) bs x.ended

/-- The rows that a course of levels on the bus is, in bus order (R170), from an idle bus with both wires high. -/
def commandsOnBus (sen : Bool) (levels : List Wires) : List Instr :=
  (transactions none (busEvents ⟨true, true⟩ levels)).filterMap (Transaction.instr? sen)

end Sys2Proof.Machine
end

