-- ==== Sys2Proof/WellFormed.lean ====
section
/-! DEFINITION. Which commands are well formed: what a sender of the row can really put on the bus or on a pin. A frame
row's frame passes the link's checks of R168; an UNKNOWN_COMMAND's code is in no row of the command table; a selector byte
is 80h to 87h; a discarded frame's bytes are ones the receiver refuses or finds cut short. The meanings are total: they
judge ill-formed commands by the same rules. -/

namespace Sys2Proof

open Machine

/-- A frame that the link hands on (R168): client number 0 to 7, at most 20 parameter bytes, the right check byte. -/
def Frame.wf (code : Byte) (f : Frame) : Bool :=
  decide (f.client.toNat < 8) && decide (f.params.length ≤ Config.maxParams) && f.check == crc8 (frameBody code f)

/-- The command code and the frame of a row that is a frame (R180). -/
def Instr.frame? : Instr → Option (Byte × Frame)
  | .openSession f _ => some (0x01, f)
  | .closeSession f => some (0x02, f)
  | .readNotices f => some (0x03, f)
  | .setNoticeMask f => some (0x04, f)
  | .status f => some (0x05, f)
  | .request f => some (0x10, f)
  | .release f => some (0x11, f)
  | .renew f => some (0x12, f)
  | .extend f => some (0x13, f)
  | .ackEnd f => some (0x14, f)
  | .query f => some (0x15, f)
  | .list f => some (0x16, f)
  | .offer f => some (0x20, f)
  | .accept f => some (0x21, f)
  | .decline f => some (0x22, f)
  | .withdraw f => some (0x23, f)
  | .readCounts f => some (0x28, f)
  | .start f => some (0x30, f)
  | .halt f => some (0x31, f)
  | .setOutput f => some (0x32, f)
  | .setExclusion f => some (0x33, f)
  | .setFault f => some (0x34, f)
  | .setCount f => some (0x35, f)
  | .setQuota f => some (0x36, f)
  | .revoke f => some (0x37, f)
  | .releaseFault f => some (0x38, f)
  | .forceClose f => some (0x39, f)
  | .faultStatus f => some (0x3A, f)
  | .readSettings f => some (0x3B, f)
  | .unknownCommand f code => some (code, f)
  | .selectorWrite _ _ => none
  | .frameDiscarded _ _ _ => none
  | .linkTimeout _ => none
  | .deviceReset _ => none
  | .rstnRise _ => none
  | .internalStartEnd _ _ => none
  | .clockAdvance _ _ => none
  | .leaseExpiry _ => none
  | .offerTimeout _ => none
  | .waitExpiry _ => none
  | .settleEnd _ => none
  | .recoverDue _ => none
  | .quietDue _ => none
  | .faultTrip _ => none
  | .faultClear _ => none
  | .latchedLevelChange _ => none
  | .countedEdge _ => none
  | .countSample _ _ => none

/-- The bytes are a frame the link discards (R170): refused by NACK, or, once the transaction has ended, cut short. -/
def discards (bytes : List Byte) (ended : Bool) : Bool :=
  match (Link.reset.receive bytes).rx with
  | .discard => true
  | .frame => ended
  | .idle => false
  | .complete => false
  | .selector _ => false
  | .read => false

/-- The command is well formed. -/
def Instr.wf (i : Instr) : Bool :=
  match i with
  | .unknownCommand f code => f.wf code && (lookupCommand code).isNone
  | .selectorWrite _ b => decide (0x80 ≤ b.toNat) && decide (b.toNat < 0x88)
  | .frameDiscarded _ bytes ended => discards bytes ended
  | i =>
    match i.frame? with
    | some (code, f) => f.wf code
    | none => true

/-- A frame with the right check byte for `code`. -/
def Frame.seal (code : Byte) (f : Frame) : Frame := { f with check := crc8 (frameBody code f) }

end Sys2Proof
end

