-- ==== Sys2Proof/Safety.lean ====
section
/-! DEFINITION. The terms in which claims are made: when a frame is in sequence and what its answer leaves, what the views
of a lease are, and the laws the spec gives the whole part, which every step keeps. -/

namespace Sys2Proof

open Machine

/-- The response to frame `f` of client `c` with code `code`: the frame's epoch, sequence and code echoed. -/
def Frame.answer (f : Frame) (c : Client) (code : Byte) (st : Status) (results : List Byte) : Response :=
  { client := c, epoch := f.epoch, seq := f.seq, code := code, status := st, results := results }

end Sys2Proof

namespace Sys2Proof.Machine

/-! ### Frames and answers -/

/-- The frame is heard, well formed, from client `c` with an OPEN session, and carries that session's epoch and the sequence
after its last one: the frame that steps 6 to 9 of R175 judge. -/
abbrev State.InSequence (s : State) (f : Frame) (code : Byte) (c : Client) : Prop :=
  s.hears f.addr = true ∧ f.wf code = true ∧ f.client = byte c ∧ f.epoch = (s.session c).epoch ∧
    (s.session c).opened.map (fun o => o.lastSeq + 1) = some f.seq

/-- The state once a frame's transaction is over: the receiver is IDLE, nothing else has moved. -/
def State.linkDone (s : State) : State := { s with link := s.link.toIdle }

/-- The state with response `x` written to client `c`'s response slot alone. -/
def State.withSlot (m : State) (c : Client) (x : Response) : State :=
  { m with sessions := m.sessions.set c { m.session c with response := some x } }

/-- The state with response `x` written to client `c`'s response slot and replay cache, and its sequence as the last
sequence. -/
def State.withAnswer (m : State) (c : Client) (x : Response) : State :=
  { m with
    sessions := m.sessions.set c { m.session c with response := some x, opened := some { lastSeq := x.seq, cache := x } } }

/-- Command `i`, whose frame `f` carries `code` from client `c`, completes: the next state is `m` with the answer of status
`st` and results `rs` in the client's response slot and replay cache and the frame's sequence as the last sequence (R175). -/
abbrev State.Completes (s : State) (i : Instr) (f : Frame) (c : Client) (code : Byte) (m : State) (st : Status)
    (rs : List Byte) : Prop :=
  exec i s = .next (m.withAnswer c (f.answer c code st rs))

/-! ### Frames of whole operations -/

/-- The settings, the clock, the mode, the count channels, the link and the lasting part of every session are the same. -/
structure Keeps (s t : State) : Prop where
  power : t.power = s.power
  pins : t.pins = s.pins
  mode : t.mode = s.mode
  clock : t.clock = s.clock
  counts : t.counts = s.counts
  link : t.link = s.link
  pending : t.pending = s.pending
  maxTerm : ∀ o, (t.output o).maxTerm = (s.output o).maxTerm
  gap : ∀ o, (t.output o).gap = (s.output o).gap
  drive : ∀ o, (t.output o).drive = (s.output o).drive
  partners : ∀ o, (t.output o).partners = (s.output o).partners
  opened : ∀ c, (t.session c).opened = (s.session c).opened
  epoch : ∀ c, (t.session c).epoch = (s.session c).epoch
  response : ∀ c, (t.session c).response = (s.session c).response
  quota : ∀ c, (t.session c).quota = (s.session c).quota
  mask : ∀ c, (t.session c).mask = (s.session c).mask

/-- `t` differs from `s` at most in the lease table, the outputs' states and lines, the queues, and the sessions' pending
notices, outcomes and ATN: what the end of a lease, a grant, a review and a notice may change. -/
structure Spares (s t : State) : Prop extends Keeps s t where
  faults : t.faults = s.faults
  cutBy : ∀ o, (t.output o).cutBy = (s.output o).cutBy

/-- The state an output goes to for whether a live lease names it: it rises by R32 and falls by R33. -/
def Output.follow (x : Output) (held : Bool) : OutState :=
  match x.state with
  | .on => if held then .on else if 0 < x.gap ∧ x.partners ≠ 0 then .settle else .off
  | .off => if held then .on else .off
  | .settle => if held then .on else .settle
  | .cut => .cut

/-- The outputs of the set `S` have followed their holders from `s` to `t`, with their G lines and their SETTLE entries, and
the other outputs are as they were (R32, R33, R37). -/
structure OutputsFollow (s t : State) (S : OutputSet) : Prop where
  outputs : ∀ o, t.output o =
    { s.output o with state := if S.getLsbD o then (s.output o).follow (t.held o) else (s.output o).state }
  lines : ∀ o : OutputId, t.gLines[o] =
    if (t.output o).state = (s.output o).state then s.gLines[o] else (t.output o).line
  settles : ∀ o e, e.key = .settle o → (e ∈ t.expiry ↔
    (e ∈ s.expiry ∧ ¬((s.output o).state = .settle ∧ (t.output o).state = .on)) ∨
      ((s.output o).state = .on ∧ (t.output o).state = .settle ∧
        e.deadline = s.clock + BitVec.ofNat 32 (s.output o).gap))

/-- The expiry queue stands in the order of ticks remaining (R75). -/
abbrev State.InOrder (s : State) : Prop :=
  s.expiry.Pairwise fun a b => remaining s.clock a.deadline ≤ remaining s.clock b.deadline

/-- The SETTLE entry of an output that rises from SETTLE to ON between `s` and `t` (R32). -/
def State.riseEntry (s t : State) (e : Entry) : Bool :=
  (List.finRange 8).any fun o => e.key == .settle o && (s.output o).state == .settle && (t.output o).state == .on

/-- The outputs that fall from ON to SETTLE between `s` and `t`, in ascending output number (R33, R37). -/
def State.falls (s t : State) : List OutputId :=
  (List.finRange 8).filter fun o => (s.output o).state == .on && (t.output o).state == .settle

/-- The queue `q` once its outputs have followed their holders from `s` to `t`: the entries of the outputs that rise are gone,
and those of the outputs that fall are inserted at now plus gap, one after the other in ascending output number (R37,
R76). -/
def State.expiryFollow (s t : State) (q : List Entry) : List Entry :=
  (s.falls t).foldl (fun q o => insertEntry s.clock ⟨s.after (s.output o).gap, .settle o⟩ q)
    (q.filter fun e => !s.riseEntry t e)

/-! ### Leases -/

/-- The outputs a lease holds (R9, R29): those it names while it is live, none otherwise. -/
def Lease.heldOutputs (l : Lease) : OutputSet := if l.phase.isLive then l.outputs else 0

/-- The entry belongs to slot `i`. -/
def Key.ofSlot (i : SlotId) (k : Key) : Bool := k == .lease i || k == .offer i || k == .wait i

/-- The entry is a SETTLE entry. -/
def Key.isSettle : Key → Bool
  | .settle _ => true
  | .lease _ => false
  | .offer _ => false
  | .wait _ => false
  | .recover _ => false
  | .quiet _ => false

/-- A live phase with its deadline replaced (R86); the other phases have none. -/
def Phase.withDeadline : Phase → Tick → Phase
  | .live ga _, d => .live ga d
  | .offered ga _ r od, d => .offered ga d r od
  | .waiting w, _ => .waiting w
  | .ended ga why at_ detail, _ => .ended ga why at_ detail

/-- Granted-at of a record, where it has one (R24). -/
def Phase.grantedAt : Phase → Option Tick
  | .waiting _ => none
  | .live ga _ => some ga
  | .offered ga _ _ _ => some ga
  | .ended ga _ _ _ => ga

/-- The deadline of a record, where it has one (R24). -/
def Phase.deadline : Phase → Option Tick
  | .waiting _ => none
  | .live _ d => some d
  | .offered _ d _ _ => some d
  | .ended _ _ _ _ => none

/-- The wait deadline of a record, where it has one (R24). -/
def Phase.waitDeadline : Phase → Option Tick
  | .waiting w => some w
  | .live _ _ => none
  | .offered _ _ _ _ => none
  | .ended _ _ _ _ => none

/-- The offer deadline of a record, where it has one (R24). -/
def Phase.offerDeadline : Phase → Option Tick
  | .waiting _ => none
  | .live _ _ => none
  | .offered _ _ _ od => some od
  | .ended _ _ _ _ => none

/-- The lease of slot `i` is OFFERED. -/
def State.offeredAt (s : State) (i : SlotId) : Bool :=
  match s.leaseAt i with
  | some l => l.phase.offerDeadline.isSome
  | none => false

/-- The row of the table that delivers an entry (R80). -/
def Key.row : Key → Instr
  | .lease i => .leaseExpiry i
  | .offer i => .offerTimeout i
  | .wait i => .waitExpiry i
  | .settle o => .settleEnd o
  | .recover ch => .recoverDue ch
  | .quiet ch => .quietDue ch

/-- Every kind and subject an expiry queue entry can have (R74). -/
def allKeys : List Key :=
  (List.finRange 32).flatMap (fun i => [.lease i, .offer i, .wait i]) ++ (List.finRange 8).map .settle ++
    (List.finRange 4).flatMap fun ch => [.recover ch, .quiet ch]

/-- The lease of slot `i` is a waiting request. -/
def State.waitingAt (s : State) (i : SlotId) : Bool :=
  match s.leaseAt i with
  | some l => l.phase.isWaiting
  | none => false

/-! ### The review -/

/-- What the grant of the waiting request `l` of slot `i` changes, whole (R60): the slot is LIVE and out of the wait queue, its
WAIT entry gives way to its LEASE entry, its outputs rise and nothing else of the queue goes but the SETTLE entries of those
that rise from SETTLE, and an OPEN holder has GRANTED pending, with ATN up to date. -/
structure Granted (s : State) (i : SlotId) (l : Lease) (t : State) : Prop extends Spares s t where
  slots : t.slots =
    s.slots.set i ⟨(s.slot i).generation, some { l with phase := .live s.clock (s.clock + BitVec.ofNat 32 l.term) }⟩
  waitQueue : t.waitQueue = s.waitQueue.erase i
  outputs : OutputsFollow s t l.outputs
  expiry : t.expiry =
    (insertEntry s.clock ⟨s.clock + BitVec.ofNat 32 l.term, .lease i⟩ (s.expiry.filter fun e => e.key ≠ .wait i)).filter
      fun e => !s.riseEntry t e
  sessions : ∀ c, t.session c =
    if c = l.holder ∧ s.isOpen c = true then
      { s.session c with notices := (s.session c).notices ||| Notice.bit .granted }
    else s.session c
  atnLow : t.atnLow = if s.isOpen l.holder = true then t.attention else s.atnLow

/-- One pass over the requests still to be tested, from the first on, with the older ones that are still waiting ahead of them
(R59): the first is granted when it is admissible against those at its turn, and otherwise stays and joins them. -/
inductive Pass : List SlotId → List SlotId → State → State → Prop where
  | done (ahead : List SlotId) (s : State) : Pass ahead [] s s
  | grant {ahead rest : List SlotId} {i : SlotId} {l : Lease} {s t u : State} : s.leaseAt i = some l →
      l.phase.isWaiting = true → s.admissible ahead l.outputs l.kind = true → Granted s i l t → Pass ahead rest t u →
      Pass ahead (i :: rest) s u
  | stay {ahead rest : List SlotId} {i : SlotId} {l : Lease} {s u : State} : s.leaseAt i = some l →
      l.phase.isWaiting = true → s.admissible ahead l.outputs l.kind = false → Pass (ahead ++ [i]) rest s u →
      Pass ahead (i :: rest) s u

/-! ### The laws of the part -/

/-- The exclusion relation is symmetric and irreflexive (R39). -/
abbrev State.ExclusionLaw (s : State) : Prop :=
  ∀ a b : OutputId, (s.output a).partners.getLsbD b = (s.output b).partners.getLsbD a ∧
    (s.output a).partners.getLsbD a = false

/-- A fault channel is LATCHED exactly when its trip count equals its latch limit, and below it otherwise (R126); IDLE and
RECOVERING read inactive, TRIPPED reads active, and TRIPPED and RECOVERING have tripped at least once (R121); the run stays
below the filter samples setting (R122). -/
abbrev State.FaultLaw (s : State) : Prop :=
  ∀ ch : FaultId,
    ((s.fault ch).state = .latched ↔ (s.fault ch).tripCount = (s.fault ch).latchLimit) ∧
    (s.fault ch).tripCount ≤ (s.fault ch).latchLimit ∧ 1 ≤ (s.fault ch).latchLimit ∧ (s.fault ch).latchLimit ≤ 15 ∧
    ((s.fault ch).state = .idle ∨ (s.fault ch).state = .recovering → (s.fault ch).filtered = false) ∧
    ((s.fault ch).state = .tripped → (s.fault ch).filtered = true) ∧
    ((s.fault ch).state = .tripped ∨ (s.fault ch).state = .recovering → 1 ≤ (s.fault ch).tripCount) ∧
    (s.fault ch).run < (s.fault ch).filterSamples ∧ (s.fault ch).filterSamples ≤ 16

/-- An output is ON exactly when a live lease names it (R31), and in CUT exactly when a channel cuts it (R35). -/
abbrev State.OutputLaw (s : State) : Prop :=
  ∀ o : OutputId, ((s.output o).state = .on ↔ s.held o = true) ∧ ((s.output o).state = .cut ↔ (s.output o).cutBy ≠ 0)

/-- No client occupies more slots than its quota (R50). -/
abbrev State.QuotaLaw (s : State) : Prop := ∀ c : Client, s.occupied c ≤ (s.session c).quota

/-- Every WAITING slot is exactly once in the wait queue, which holds only WAITING slots and at most 12 entries (R56), and in
SETUP no slot is WAITING, LIVE or OFFERED (R155). -/
abbrev State.QueueLaw (s : State) : Prop :=
  (∀ i : SlotId, i ∈ s.waitQueue ↔ s.waitingAt i = true) ∧ s.waitQueue.Nodup ∧ s.waitQueue.length ≤ Config.queueCapacity ∧
    (s.mode = .setup → ∀ i : SlotId, s.waitingAt i = false ∧ s.liveAt i = false)

/-- The outputs of a waiting or live lease hold no two partners (R39, R49 step 3). -/
abbrev State.PairLaw (s : State) : Prop :=
  ∀ i : SlotId, s.waitingAt i = true ∨ s.liveAt i = true → s.partnersOf (s.outputsOf i) &&& s.outputsOf i = 0

/-- An output named by a live SOLE lease is named by no other live lease (R30). -/
abbrev State.SoleLaw (s : State) : Prop :=
  ∀ (o : OutputId) (i j : SlotId),
    s.slotHolds o i = true → s.slotHolds o j = true → s.slotSole i = true → i = j

/-- No output is ON while one of its exclusion partners is ON or in SETTLE (R39). -/
abbrev State.InterlockLaw (s : State) : Prop :=
  ∀ a b : OutputId, (s.output a).partners.getLsbD b = true → (s.output a).state = .on →
    (s.output b).state ≠ .on ∧ (s.output b).state ≠ .settle

/-- What a CLOSED session holds: no pending notice, no outcome, the full mask, no slot, and no offer made to it; and no offer
is made to its own giver (R5, R141). -/
abbrev State.SessionLaw (s : State) : Prop :=
  ∀ c : Client,
    (s.isOpen c = false →
      (s.session c).notices = 0 ∧ (s.session c).outcome = none ∧ (s.session c).mask = allNotices ∧
        ∀ i : SlotId, s.heldBy c i = false ∧ s.giverTo c i = none) ∧
    ∀ i : SlotId, s.giverTo c i ≠ some c

/-- The G lines stand at the levels their outputs call for, and low in reset and the internal start (R38); ATN is low exactly
when an OPEN session has a pending kind in its mask (R152). -/
abbrev State.PinLaw (s : State) : Prop :=
  (∀ o : OutputId, s.gLines[o] = (s.power == .running && (s.output o).line)) ∧ s.atnLow = s.attention

/-- A count bound's budget is 1 to 65535; a live lease's spent count is below it (R95) and a waiting request's is 0
(R24). -/
def CountBound.inRange (k : CountBound) (p : Phase) : Bool :=
  decide (1 ≤ k.budget) && decide (k.budget ≤ Config.maxBudget) && (!p.isLive || decide (k.spent < k.budget)) &&
    (!p.isWaiting || k.spent == 0)

/-- The record of an occupied slot is in its ranges: a non-empty output set, a term of 1 to 600000 and its count bound
(R3). -/
def Lease.inRange (l : Lease) : Bool :=
  l.outputs != 0 && decide (1 ≤ l.term) && decide (l.term ≤ Config.maxTicks) &&
    match l.count with
    | none => true
    | some k => k.inRange l.phase

/-- Slot `i` is FREE, or it carries a generation of 1 to 255 (R4) and a record in its ranges. -/
def State.slotInRange (s : State) (i : SlotId) : Bool :=
  match s.leaseAt i with
  | none => true
  | some l => (s.slot i).generation != 0 && l.inRange

/-- Every occupied slot's record is in its ranges. -/
abbrev State.RecordLaw (s : State) : Prop := ∀ i : SlotId, s.slotInRange i = true

/-- The settings lie in the ranges of R28 and R120. -/
abbrev State.SettingLaw (s : State) : Prop :=
  (∀ o : OutputId, (s.output o).maxTerm ≤ Config.maxTicks ∧ (s.output o).gap ≤ Config.maxGap) ∧
  ∀ ch : FaultId,
    2 ≤ (s.fault ch).filterSamples ∧ (s.fault ch).filterSamples ≤ 16 ∧
    1 ≤ (s.fault ch).recoveryDelay ∧ (s.fault ch).recoveryDelay ≤ Config.maxWait ∧
    1 ≤ (s.fault ch).latchLimit ∧ (s.fault ch).latchLimit ≤ 15 ∧
    1 ≤ (s.fault ch).quietPeriod ∧ (s.fault ch).quietPeriod ≤ Config.maxTicks

/-- The state calls for an expiry queue entry of this kind and subject (R74). -/
def State.callsFor (s : State) : Key → Bool
  | .lease i => s.liveAt i
  | .offer i => s.offeredAt i
  | .wait i => s.waitingAt i
  | .settle o => (s.output o).state == .settle
  | .recover ch => (s.fault ch).state == .recovering
  | .quiet ch => (s.fault ch).state == .idle && decide (0 < (s.fault ch).tripCount)

/-- The deadline the owner of an entry records: a lease's deadline, an offer's and a wait's. The other kinds record none
(R74). -/
def State.recorded (s : State) : Key → Option Tick
  | .lease i => (s.leaseAt i).bind fun l => l.phase.deadline
  | .offer i => (s.leaseAt i).bind fun l => l.phase.offerDeadline
  | .wait i => (s.leaseAt i).bind fun l => l.phase.waitDeadline
  | .settle _ => none
  | .recover _ => none
  | .quiet _ => none

/-- The expiry queue holds exactly one entry for each kind and subject the state calls for, at the deadline its owner
records, in the order of ticks remaining, none more than 600000 ticks ahead (R73, R74, R75). -/
abbrev State.ExpiryLaw (s : State) : Prop :=
  (s.expiry.map Entry.key).Nodup ∧ (∀ k ∈ allKeys, k ∈ s.expiry.map Entry.key ↔ s.callsFor k = true) ∧
  (∀ e ∈ s.expiry, s.recorded e.key = none ∨ s.recorded e.key = some e.deadline) ∧
  s.expiry.Pairwise (fun a b => remaining s.clock a.deadline ≤ remaining s.clock b.deadline) ∧
  ∀ e ∈ s.expiry, remaining s.clock e.deadline ≤ Config.maxTicks

/-- The laws that together keep the expiry queue true to the state. -/
abbrev State.DeadlineLaw (s : State) : Prop := s.ExpiryLaw ∧ s.FaultLaw ∧ s.RecordLaw ∧ s.SettingLaw

/-- The laws that together keep partners apart: the relation's own, the outputs', the queue's, and those of the leases. -/
abbrev State.SafetyLaw (s : State) : Prop :=
  s.ExclusionLaw ∧ s.OutputLaw ∧ s.QueueLaw ∧ s.PairLaw ∧ s.SoleLaw ∧ s.InterlockLaw

end Sys2Proof.Machine
end

