-- ==== Sys2Proof/Certificates/Slice0/Obligations.lean ====
section
/-! DEFINITION. The statements for the provers. Each docstring names the rules of spec/ a statement formalises; the model's
own choices are named with their assumption numbers. -/

section
open Sys2Proof Sys2Proof.Machine

/-! ### The step and the link -/

/-- A step carries out the command at the front of the queue on the state with the queue's rest; on an empty queue the part
idles (the queue and the idling are the model's, assumptions 10 and 17). -/
def Obligations.StepRunsFrontCommand : Prop :=
  (∀ (s : State) (c : Instr) (rest : List Instr), s.pending = c :: rest → step s = exec c { s with pending := rest }) ∧
  ∀ s : State, s.pending = [] → step s = .next s

/-- The receiver takes every well-formed frame, byte for byte, from any state of the link: every byte is acknowledged, the
receiver ends in COMPLETE with the selector and the address as they were, and the fields read back from its partial frame
are the frame's (R168, R169). -/
def Obligations.WellFormedFrameIsReadBack : Prop :=
  ∀ (l : Link) (code : Byte) (f : Frame) (c : Client), f.wf code = true → f.client = byte c →
    (l.receive (frameBytes code f)).rx = .complete ∧
    (l.receive (frameBytes code f)).selector = l.selector ∧ (l.receive (frameBytes code f)).address = l.address ∧
    receivedOf (l.receive (frameBytes code f)).partialFrame =
      { client := c, epoch := f.epoch, seq := f.seq, code := code, params := f.params } ∧
    l.acks (frameBytes code f) = List.replicate (6 + f.params.length) true

/-- The part acknowledges an address byte of its own address, whichever its direction bit, while it runs. A frame that is not
heard changes nothing in reset and the internal start, and for a running part at another address it ends the transaction
that was in progress, which leaves the receiver in IDLE; and a frame that is heard with a wrong check byte is discarded, with
its check byte alone refused and nothing but the receiver moved, which is back in IDLE (R163, R166, R167, R168, R170). That a
row is a whole transaction is the model's (assumption 4). -/
def Obligations.UnheardAndWrongFramesChangeNothing : Prop :=
  (∀ (s : State) (a : Byte),
    s.acksAddress a = true ↔
      s.power = .running ∧ (a.toNat = 2 * s.link.address.toNat ∨ a.toNat = 2 * s.link.address.toNat + 1)) ∧
  ∀ (s : State) (i : Instr) (code : Byte) (f : Frame), i.frame? = some (code, f) →
    (s.power ≠ .running → exec i s = .next s) ∧
    (s.power = .running → (∀ g k, i = .unknownCommand g k → lookupCommand k = none) →
      (s.link.address ≠ f.addr → exec i s = .next s.linkDone) ∧
      (s.link.address = f.addr → f.client.toNat < 8 → f.params.length ≤ 20 → f.check ≠ crc8 (frameBody code f) →
        s.link.acks (frameBytes code f) = List.replicate (5 + f.params.length) true ++ [false] ∧
        exec i s = .next s.linkDone))

/-- FRAME_DISCARDED: bytes that the receiver refuses leave it in DISCARD until the end condition comes and in IDLE after it,
and bytes cut short leave it in IDLE; a write addressed elsewhere ends the transaction in progress, which leaves it in IDLE,
and in reset and the internal start nothing changes. LINK_TIMEOUT: whatever transfer was on the bus, the receiver goes to
IDLE with its partial frame dropped and SDA released. The selector, the response slots and every other state are as they
were (R163, R166, R167, R170, R171). -/
def Obligations.DiscardAndTimeoutMoveTheReceiverAlone : Prop :=
  (∀ (s : State) (addr : BitVec 7) (bytes : List Byte),
     (s.hears addr = true →
       (discards bytes true = true → exec (.frameDiscarded addr bytes true) s = .next s.linkDone) ∧
       (discards bytes false = true →
         exec (.frameDiscarded addr bytes false) s = .next { s with link := { s.link.toIdle with rx := .discard } })) ∧
     (s.power = .running → s.link.address ≠ addr → ∀ ended,
       exec (.frameDiscarded addr bytes ended) s = .next s.linkDone) ∧
     (s.power ≠ .running → ∀ ended, exec (.frameDiscarded addr bytes ended) s = .next s)) ∧
  ∀ (s : State) (x : Option Sys2Proof.Transfer),
    (s.power = .running → exec (.linkTimeout x) s = .next s.linkDone) ∧
    (s.power ≠ .running → exec (.linkTimeout x) s = .next s)

/-- SELECTOR_WRITE: a one-byte write of 80h to 87h sets the selector to the byte's three least significant bits; any other
byte sets nothing; a second data byte is refused and leaves the selector as it was. A write at another address leaves the
selector as it was and ends the transaction in progress, and in reset and the internal start nothing changes (R163, R166,
R167, R172). That the selector byte itself is acknowledged is the model's reading (assumption 14). -/
def Obligations.SelectorWriteSetsTheSelector : Prop :=
  ∀ (s : State) (addr : BitVec 7),
    (s.power = .running → s.link.address = addr →
      (∀ k : Client, exec (.selectorWrite addr (0x80 + byte k)) s =
        .next { s with link := { s.link.toIdle with selector := k } }) ∧
      (∀ b : Byte, b.toNat < 0x80 ∨ 0x88 ≤ b.toNat → exec (.selectorWrite addr b) s = .next s.linkDone) ∧
      ∀ b x : Byte, 0x80 ≤ b.toNat → b.toNat < 0x88 →
        s.link.acks [b, x] = [true, false] ∧ exec (.frameDiscarded addr [b, x] true) s = .next s.linkDone) ∧
    (s.power = .running → s.link.address ≠ addr → ∀ b, exec (.selectorWrite addr b) s = .next s.linkDone) ∧
    (s.power ≠ .running → ∀ b, exec (.selectorWrite addr b) s = .next s)

/-- A read at the part's address returns the selected client's slot: the response's bytes, its check byte, and FFh for every
byte past it; an empty slot reads as NO_RESPONSE. A read the part does not acknowledge, at another address or in reset or the
internal start, returns nothing of it (R163, R166, R173). Reads have no row of the table: they are a view of the state
(assumption 5). -/
def Obligations.ReadReturnsTheSelectedSlot : Prop :=
  ∀ (s : State) (addr : BitVec 7),
    (s.power = .running → s.link.address = addr → ∀ k : Nat,
      (∀ x, (s.session s.link.selector).response = some x →
        let b := [byte x.client, x.epoch, x.seq, x.code, x.status.code, byte x.results.length] ++ x.results
        s.readTransaction addr (7 + x.results.length + k) = some (b ++ [crc8 b] ++ List.replicate k 0xFF)) ∧
      ((s.session s.link.selector).response = none →
        let b := [byte s.link.selector, 0x00, 0xFF, 0xFF, 0xFF, 0x00]
        s.readTransaction addr (7 + k) = some (b ++ [crc8 b] ++ List.replicate k 0xFF))) ∧
    (s.power ≠ .running ∨ s.link.address ≠ addr → ∀ n, s.readTransaction addr n = none)

/-- Steps 1 and 3 to 5 of acceptance, for every frame but OPEN: NOT_OPEN, STALE_SESSION and SEQUENCE_ERROR are written to the
response slot alone, and a frame that repeats the last sequence copies the replay cache to the slot; nothing is carried out
and the session's sequence and cache stay (R175, R177). -/
def Obligations.AcceptanceStepsOneToFive : Prop :=
  ∀ (s : State) (i : Instr) (code : Byte) (f : Frame) (c : Client),
    i.frame? = some (code, f) → i.wf = true → code ≠ 0x01 → s.hears f.addr = true → f.client = byte c →
    ((s.session c).opened = none →
      exec i s = .next (s.linkDone.withSlot c ⟨c, (s.session c).epoch, f.seq, code, .notOpen, []⟩)) ∧
    ∀ o, (s.session c).opened = some o →
      (f.epoch ≠ (s.session c).epoch →
        exec i s = .next (s.linkDone.withSlot c ⟨c, (s.session c).epoch, f.seq, code, .staleSession, []⟩)) ∧
      (f.epoch = (s.session c).epoch → f.seq = o.lastSeq → exec i s = .next (s.linkDone.withSlot c o.cache)) ∧
      (f.epoch = (s.session c).epoch → f.seq ≠ o.lastSeq → f.seq ≠ o.lastSeq + 1 →
        exec i s = .next (s.linkDone.withSlot c ⟨c, (s.session c).epoch, f.seq, code, .sequenceError, []⟩))

/-- Steps 6 to 8 of acceptance, for every frame in sequence but OPEN: a code outside the command table is answered
UNKNOWN_COMMAND, a wrong parameter length BAD_LENGTH, a supervisor command from clients 1 to 7 NOT_PERMITTED; each advances
the sequence and is cached, and nothing else is done (R175). -/
def Obligations.AcceptanceStepsSixToEight : Prop :=
  ∀ (s : State) (i : Instr) (code : Byte) (f : Frame) (c : Client),
    i.frame? = some (code, f) → i.wf = true → code ≠ 0x01 → s.InSequence f code c →
    (lookupCommand code = none → s.Completes i f c code s.linkDone .unknownCommand []) ∧
    ∀ row, lookupCommand code = some row →
      (f.params.length ≠ row.length → s.Completes i f c code s.linkDone .badLength []) ∧
      (f.params.length = row.length → row.supervisor = true → c ≠ 0 →
        s.Completes i f c code s.linkDone .notPermitted [])

/-! ### Reset and start-up -/

/-- DEVICE_RESET leaves nothing of the state before it: every block is at its reset values, and only the input lines and the
commands still waiting outside are as they stood. RSTN_RISE begins the internal start once RSTN is high and the supply in
range, and INTERNAL_START_END ends it, latching the address 5Ah + 2·AD1 + AD0, with every block still at its reset values
(R163, R164, R166). That the pin levels and the waiting commands outlive a reset is the model's (assumption 22), and so is
that these events change nothing where the part is not in reset, or not starting, and they cannot occur (assumption 9). -/
def Obligations.ResetAndStartUp : Prop :=
  (∀ s : State,
     exec (.deviceReset .rstnLow) s =
       .next { State.reset with pins := { s.pins with rstn := false }, pending := s.pending } ∧
     exec (.deviceReset .supplyLow) s =
       .next { State.reset with pins := { s.pins with vdd := false }, pending := s.pending }) ∧
  ∀ s : State,
    (s.power = .inReset →
      exec (.rstnRise .rstnHigh) s = .next { State.reset with
        power := if s.pins.vdd then .starting else .inReset, pins := { s.pins with rstn := true }, pending := s.pending } ∧
      exec (.rstnRise .supplyInRange) s = .next { State.reset with
        power := if s.pins.rstn then .starting else .inReset, pins := { s.pins with vdd := true }, pending := s.pending }) ∧
    (s.power ≠ .inReset → ∀ cause, exec (.rstnRise cause) s = .next s) ∧
    (∀ a1 a0 : Bool, s.power = .starting → exec (.internalStartEnd a1 a0) s = .next { State.reset with
      power := .running, pins := { s.pins with ad1 := a1, ad0 := a0 }, pending := s.pending
      link := { Link.reset with address := BitVec.ofNat 7 (0x5A + 2 * a1.toNat + a0.toNat) } }) ∧
    (∀ a1 a0 : Bool, s.power ≠ .starting → exec (.internalStartEnd a1 a0) s = .next s)

/-- The values the spec gives for device reset (R2, R28, R56, R72, R78, R91, R120, R140, R155, R163, R167, R172), which meet
the laws of the whole part. -/
def Obligations.ResetValues : Prop :=
  (State.reset.power = .inReset ∧ State.reset.mode = .setup ∧ State.reset.clock = 0 ∧ State.reset.waitQueue = [] ∧
   State.reset.expiry = [] ∧ State.reset.atnLow = false ∧ State.reset.link.selector = 0 ∧ State.reset.link.rx = .idle ∧
   State.reset.link.partialFrame = [] ∧ State.reset.link.drivingSda = false ∧
   (∀ i : SlotId, State.reset.slot i = ⟨0, none⟩) ∧
   (∀ o : OutputId, State.reset.output o = ⟨.off, 0, 60000, 0, .activeHigh, 0⟩ ∧ State.reset.gLines[o] = false) ∧
   (∀ ch : CountId, State.reset.count ch = ⟨false, .rising, .us64, false, false, 0⟩) ∧
   (∀ ch : FaultId, (State.reset.fault ch).enabled = false ∧ (State.reset.fault ch).activeHigh = true ∧
     (State.reset.fault ch).filterSamples = 3 ∧ (State.reset.fault ch).cutSet = 0 ∧
     (State.reset.fault ch).recoveryDelay = 500 ∧ (State.reset.fault ch).latchLimit = 3 ∧
     (State.reset.fault ch).quietPeriod = 10000 ∧ (State.reset.fault ch).state = .idle ∧
     (State.reset.fault ch).tripCount = 0 ∧ (State.reset.fault ch).filtered = false ∧ (State.reset.fault ch).run = 0) ∧
   ∀ c : Client, State.reset.session c = ⟨none, 0, none, if c = 0 then 8 else 4, 0, 0x3F, none⟩) ∧
  State.reset.SafetyLaw ∧ State.reset.DeadlineLaw ∧ State.reset.SessionLaw ∧ State.reset.QuotaLaw ∧ State.reset.PinLaw

/-! ### Sessions and notices -/

/-- OPEN, from clients 1 to 7 or from client 0 with SEN high, closes an OPEN session in full and opens the new one: the epoch
goes up by 1 and 255 becomes 1, the sequence is the frame's, the pending set is empty, the mask full and the outcome absent;
the answer OK with the new epoch stands in the slot and the cache, and ATN is brought up to date. A refused OPEN writes the
response slot alone and leaves the session as it was: BAD_LENGTH for a parameter length other than 0, whatever SEN, and then
NOT_PERMITTED for client 0 while SEN is low (R142, R143, R144, R176). That the row carries SEN's level and State.pins keeps
it, read at client 0's OPEN of length 0 alone, is the model's (assumptions 3 and 24). -/
def Obligations.OpenOpensOrIsRefused : Prop :=
  (∀ (s : State) (f : Frame) (c : Client) (sen : Bool),
     s.hears f.addr = true → f.wf 0x01 = true → f.client = byte c → f.params = [] → (c = 0 → sen = true) →
     let read := if c = 0 then { s.linkDone with pins := { s.pins with sen := sen } } else s.linkDone
     let t := if s.isOpen c then read.closeFull c else read
     let e := if (s.session c).epoch = 0xFF then 0x01 else (s.session c).epoch + 1
     let r : Response := ⟨c, e, f.seq, 0x01, .ok, [e]⟩
     exec (.openSession f sen) s = .next (State.updateAtn { t with
       sessions := t.sessions.set c
         { t.session c with
           opened := some ⟨f.seq, r⟩, epoch := e, response := some r, notices := 0, mask := 0x3F, outcome := none } })) ∧
  ∀ (s : State) (f : Frame) (c : Client) (sen : Bool),
    s.hears f.addr = true → f.wf 0x01 = true → f.client = byte c →
    (f.params ≠ [] →
      exec (.openSession f sen) s =
        .next (s.linkDone.withSlot c ⟨c, (s.session c).epoch, f.seq, 0x01, .badLength, []⟩)) ∧
    (f.params = [] → c = 0 → sen = false →
      exec (.openSession f sen) s = .next (State.withSlot
        { s.linkDone with pins := { s.pins with sen := false } } 0 ⟨0, (s.session 0).epoch, f.seq, 0x01, .notPermitted, []⟩))

/-- CLOSE closes the sender's session in full, and its OK is written to the response slot alone; FORCE_CLOSE closes another
client's OPEN session in full, is answered BAD_PARAMETER for client 0 and for a client above 07h, and WRONG_STATE for a
CLOSED one (R146, R147, R176). -/
def Obligations.CloseAndForceClose : Prop :=
  (∀ (s : State) (f : Frame) (c : Client), s.InSequence f 0x02 c → f.params = [] →
    exec (.closeSession f) s = .next ((s.linkDone.closeFull c).withSlot c (f.answer c 0x02 .ok []))) ∧
  ∀ (s : State) (f : Frame) (b : Byte), s.InSequence f 0x39 0 → f.params = [b] →
    (b = 0 ∨ 8 ≤ b.toNat → s.Completes (.forceClose f) f 0 0x39 s.linkDone .badParameter []) ∧
    ∀ v : Client, v ≠ 0 → b = byte v →
      (s.isOpen v = false → s.Completes (.forceClose f) f 0 0x39 s.linkDone .wrongState []) ∧
      (s.isOpen v = true → s.Completes (.forceClose f) f 0 0x39 (s.linkDone.closeFull v) .ok [])

/-- The full close of a session, whole: the slots it holds are freed in ascending order (FreeingASlot says all that does: their
outputs fall with lines and SETTLE entries, their entries and queue places go); the leases offered to it return to their
givers with their OFFER entries gone, outcome VOIDED and OFFER_OUT; its record is CLOSED and ATN brought up to date; and one
review follows exactly when a WAITING, LIVE or OFFERED slot was freed. So every slot it holds is FREE with its generation kept; every lease offered to it by another
returns to LIVE with its giver and its deadline; its own record is CLOSED with an empty pending set, the full mask and no
outcome, and keeps its epoch, response and quota; each such giver's outcome names its highest-numbered slot among them as
VOIDED, with OFFER_OUT while it is OPEN; the other leases stay, but that the one review may grant waiting requests; the
power state, the pins, the clock, the mode, the channels, the link, the outputs' settings, partners and cuts, and the other
sessions' epochs, responses, quotas and masks are as they were (R16, R115, R116, R145, R152). -/
def Obligations.FullCloseLeavesNothingHeld : Prop :=
  ∀ (s : State) (c : Client),
    let t := s.closeFull c
    let freed := ((List.finRange 32).filter (s.heldBy c)).foldl State.freeSlot s
    let closed := State.updateAtn { freed with
      slots := Vector.ofFn fun i : SlotId => match freed.leaseAt i with
        | some l => (match l.phase with
          | .offered ga d r _ => if r = c then ⟨(s.slot i).generation, some { l with phase := .live ga d }⟩ else freed.slot i
          | _ => freed.slot i)
        | none => freed.slot i
      expiry := freed.expiry.filter fun e => ∀ i, freed.giverTo c i ≠ none → e.key ≠ .offer i
      sessions := Vector.ofFn fun g : Client =>
        if g = c then { s.session c with opened := none, notices := 0, mask := 0x3F, outcome := none }
        else match ((List.finRange 32).filter fun i => freed.giverTo c i = some g).getLast? with
          | some i => { s.session g with
              outcome := some (s.handleOf i, .voided)
              notices := (s.session g).notices ||| if s.isOpen g then Notice.bit .offerOut else 0 }
          | none => s.session g }
    t = (if ∃ i, s.activeOf c i = true then closed.review else closed) ∧
    t.session c = { s.session c with opened := none, notices := 0, mask := 0x3F, outcome := none } ∧
    (∀ i, s.heldBy c i = true → t.slot i = ⟨(s.slot i).generation, none⟩) ∧
    (∀ i l ga d od, s.leaseAt i = some l → l.holder ≠ c → l.phase = .offered ga d c od →
      t.slot i = ⟨(s.slot i).generation, some { l with phase := .live ga d }⟩) ∧
    (∀ i, s.heldBy c i = false → s.giverTo c i = none → s.waitingAt i = false → t.slot i = s.slot i) ∧
    (∀ i, s.heldBy c i = false → s.waitingAt i = true → t.slot i = s.slot i ∨ t.liveAt i = true) ∧
    (∀ g i, g ≠ c → s.giverTo c i = some g → (∀ j, i < j → s.giverTo c j ≠ some g) →
      (t.session g).outcome = some (s.handleOf i, .voided) ∧
      (s.isOpen g = true → (t.session g).notices &&& Notice.bit .offerOut ≠ 0)) ∧
    ((∀ i, s.activeOf c i = false) → ∀ i, s.heldBy c i = false → s.giverTo c i = none → t.slot i = s.slot i) ∧
    t.power = s.power ∧ t.pins = s.pins ∧ t.pending = s.pending ∧
    t.clock = s.clock ∧ t.mode = s.mode ∧ t.counts = s.counts ∧ t.faults = s.faults ∧ t.link = s.link ∧
    (∀ d, d ≠ c → (t.session d).opened = (s.session d).opened ∧ (t.session d).epoch = (s.session d).epoch ∧
      (t.session d).response = (s.session d).response ∧ (t.session d).quota = (s.session d).quota ∧
      (t.session d).mask = (s.session d).mask) ∧
    ∀ o, (t.output o).maxTerm = (s.output o).maxTerm ∧ (t.output o).gap = (s.output o).gap ∧
      (t.output o).drive = (s.output o).drive ∧ (t.output o).cutBy = (s.output o).cutBy ∧
      (t.output o).partners = (s.output o).partners

/-- READ_NOTICES reports the pending set and the outcome record, empties the pending set and brings ATN up to date;
SET_NOTICE_MASK replaces the sender's mask and brings ATN up to date, and a byte with position 6 or 7 set is answered
BAD_PARAMETER and changes nothing (R116, R151, R153). -/
def Obligations.NoticesAreReadAndMasked : Prop :=
  (∀ (s : State) (f : Frame) (c : Client), s.InSequence f 0x03 c → f.params = [] →
     s.Completes (.readNotices f) f c 0x03
       (State.updateAtn { s.linkDone with sessions := s.sessions.set c { s.session c with notices := 0 } }) .ok
       ([(s.session c).notices.zeroExtend 8] ++ match (s.session c).outcome with
         | some (h, o) => [byte h.slot, h.generation, o.code]
         | none => [0xFF, 0xFF, 0xFF])) ∧
  ∀ (s : State) (f : Frame) (c : Client) (b : Byte), s.InSequence f 0x04 c → f.params = [b] →
    (∀ m : NoticeSet, b = m.zeroExtend 8 →
      s.Completes (.setNoticeMask f) f c 0x04
        (State.updateAtn { s.linkDone with sessions := s.sessions.set c { s.session c with mask := m } }) .ok []) ∧
    (b &&& 0xC0 ≠ 0 → s.Completes (.setNoticeMask f) f c 0x04 s.linkDone .badParameter [])

/-- SET_QUOTA: WRONG_MODE in RUN; in SETUP BAD_PARAMETER for a client above 07h, a quota above 32 or one below the client's
occupied slots; otherwise the quota is written (R149). -/
def Obligations.SetQuotaWritesTheQuota : Prop :=
  ∀ (s : State) (f : Frame) (b q : Byte), s.InSequence f 0x36 0 → f.params = [b, q] →
    (s.mode = .run → s.Completes (.setQuota f) f 0 0x36 s.linkDone .wrongMode []) ∧
    (s.mode = .setup →
      (8 ≤ b.toNat → s.Completes (.setQuota f) f 0 0x36 s.linkDone .badParameter []) ∧
      ∀ v : Client, b = byte v →
        (32 < q.toNat ∨ q.toNat < s.occupied v → s.Completes (.setQuota f) f 0 0x36 s.linkDone .badParameter []) ∧
        (q.toNat ≤ 32 → s.occupied v ≤ q.toNat →
          s.Completes (.setQuota f) f 0 0x36
            { s.linkDone with sessions := s.sessions.set v { s.session v with quota := q.toNat } } .ok []))

/-! ### Admission and the wait queue -/

/-- The static checks of REQUEST in their order, the first that fails giving the answer; one that passes them all will take
the lowest-numbered FREE slot (R49, R50). The quota check reads as the rule does under the law that no client occupies more
than its quota. -/
def Obligations.StaticChecksInOrder : Prop :=
  ∀ (s : State) (c : Client) (r : RequestParams), s.QuotaLaw →
    (s.mode = .setup → s.staticChecks c r = .error .wrongMode) ∧
    (s.mode = .run →
      (r.outputs = 0 ∨ 0x01 < r.kind.toNat ∨ r.term = 0 ∨ 600000 < r.term ∨ 60000 < r.wait ∨
          (r.channel ≠ 0xFF ∧ 4 ≤ r.channel.toNat) ∨
          (∃ ch : CountId, r.channel = byte ch ∧ (r.budget = 0 ∨ (s.count ch).enabled = false)) →
        s.staticChecks c r = .error .badParameter) ∧
      ∀ k : Kind, r.kind = k.code → r.outputs ≠ 0 → 1 ≤ r.term → r.term ≤ 600000 → r.wait ≤ 60000 →
        (r.channel = 0xFF ∨ ∃ ch : CountId, r.channel = byte ch ∧ r.budget ≠ 0 ∧ (s.count ch).enabled = true) →
        s.staticChecks c r =
          if ∃ a b : OutputId, r.outputs.getLsbD a = true ∧ r.outputs.getLsbD b = true ∧
              (s.output a).partners.getLsbD b = true then .error .selfExcluded
          else if ∃ o : OutputId, r.outputs.getLsbD o = true ∧ (s.output o).maxTerm = 0 then .error .outputDisabled
          else if ∃ o : OutputId, r.outputs.getLsbD o = true ∧ (s.output o).maxTerm < r.term then .error .badParameter
          else if s.occupied c = (s.session c).quota then .error .quotaExceeded
          else match (List.finRange 32).find? fun i => (s.leaseAt i).isNone with
            | some i => .ok (k, i)
            | none => .error .tableFull)

/-- The admission test: no output named is in CUT; for SOLE every output named has no holder, for SHARED none is sole-held;
no partner of an output named is ON or in SETTLE; and no older waiting request names an output named or a partner of one
(R51, R54). -/
def Obligations.AdmissionTestHasFourConditions : Prop :=
  ∀ (s : State) (older : List SlotId) (S : OutputSet) (k : Kind),
    s.admissible older S k = true ↔
      (∀ o : OutputId, S.getLsbD o = true → (s.output o).state ≠ .cut) ∧
      (∀ o : OutputId, S.getLsbD o = true →
        (k = .sole → ∀ i, s.slotHolds o i = false) ∧
        (k = .shared → ¬∃ i, s.slotSole i = true ∧ ∀ j, s.slotHolds o j = true ↔ j = i)) ∧
      (∀ o p : OutputId, S.getLsbD o = true → (s.output o).partners.getLsbD p = true →
        (s.output p).state ≠ .on ∧ (s.output p).state ≠ .settle) ∧
      ∀ i ∈ older, ∀ o : OutputId, (s.outputsOf i).getLsbD o = true →
        S.getLsbD o = false ∧ ∀ p : OutputId, S.getLsbD p = true → (s.output p).partners.getLsbD o = false

/-- An admissible REQUEST is granted: its slot goes to LIVE with its generation raised, granted-at now and its deadline the
term later, a LEASE entry is inserted there, and its outputs follow; the answer is OK with handle and deadline. Its eleven
bytes are outputs, kind, term, wait limit, count channel, budget and tag, least significant byte first; channel FFh asks for
no count bound, channel 0 to 3 for one with nothing spent (R4, R48, R51). -/
def Obligations.AdmissibleRequestIsGranted : Prop :=
  ∀ (s : State) (f : Frame) (c : Client) (os kb t0 t1 t2 w0 w1 ch b0 b1 tag : Byte)
    (bound : Option CountBound) (k : Kind) (i : SlotId),
    s.InSequence f 0x10 c → f.params = [os, kb, t0, t1, t2, w0, w1, ch, b0, b1, tag] →
    let term := t0.toNat + 256 * t1.toNat + 65536 * t2.toNat
    let wait := w0.toNat + 256 * w1.toNat
    let budget := b0.toNat + 256 * b1.toNat
    s.staticChecks c ⟨os, kb, term, wait, ch, budget, tag⟩ = .ok (k, i) → s.admissible s.waitQueue os k = true →
    (ch = 0xFF ∧ bound = none) ∨ (∃ n : CountId, ch = byte n ∧ bound = some ⟨n, budget, 0⟩) →
    let g := if (s.slot i).generation = 0xFF then 0x01 else (s.slot i).generation + 1
    let d := s.clock + BitVec.ofNat 32 term
    s.Completes (.request f) f c 0x10
      (State.recomputeAll
        { s.linkDone with
          slots := s.slots.set i ⟨g, some ⟨c, tag, os, k, term, bound, .live s.clock d⟩⟩
          expiry := insertEntry s.clock ⟨d, .lease i⟩ s.expiry } os)
      .ok ([byte i, g] ++ leBytes 4 d.toNat)

/-- A REQUEST that is not admissible and asks for a wait joins a wait queue of fewer than 12 entries at its tail: its slot
goes to WAITING with its wait deadline and a WAIT entry; the answer is QUEUED with handle and wait deadline. Its eleven bytes
and its count bound read as for a REQUEST that is granted (R4, R48, R53). -/
def Obligations.BlockedRequestIsQueued : Prop :=
  ∀ (s : State) (f : Frame) (c : Client) (os kb t0 t1 t2 w0 w1 ch b0 b1 tag : Byte)
    (bound : Option CountBound) (k : Kind) (i : SlotId),
    s.InSequence f 0x10 c → f.params = [os, kb, t0, t1, t2, w0, w1, ch, b0, b1, tag] →
    let term := t0.toNat + 256 * t1.toNat + 65536 * t2.toNat
    let wait := w0.toNat + 256 * w1.toNat
    let budget := b0.toNat + 256 * b1.toNat
    s.staticChecks c ⟨os, kb, term, wait, ch, budget, tag⟩ = .ok (k, i) → s.admissible s.waitQueue os k = false →
    (ch = 0xFF ∧ bound = none) ∨ (∃ n : CountId, ch = byte n ∧ bound = some ⟨n, budget, 0⟩) →
    1 ≤ wait → s.waitQueue.length < 12 →
    let g := if (s.slot i).generation = 0xFF then 0x01 else (s.slot i).generation + 1
    let w := s.clock + BitVec.ofNat 32 wait
    s.Completes (.request f) f c 0x10
      { s.linkDone with
        slots := s.slots.set i ⟨g, some ⟨c, tag, os, k, term, bound, .waiting w⟩⟩
        waitQueue := s.waitQueue ++ [i]
        expiry := insertEntry s.clock ⟨w, .wait i⟩ s.expiry }
      .queued ([byte i, g] ++ leBytes 4 w.toNat)

/-- A refused REQUEST takes no slot and changes no state: a static check's status; for no wait OUTPUT_CUT when an output
named is in CUT and CONFLICT otherwise; QUEUE_FULL when the wait queue already holds 12 entries. Its eleven bytes read as for
a REQUEST that is granted (R48, R52, R53). -/
def Obligations.RefusedRequestTakesNothing : Prop :=
  ∀ (s : State) (f : Frame) (c : Client) (os kb t0 t1 t2 w0 w1 ch b0 b1 tag : Byte),
    s.InSequence f 0x10 c → f.params = [os, kb, t0, t1, t2, w0, w1, ch, b0, b1, tag] →
    let term := t0.toNat + 256 * t1.toNat + 65536 * t2.toNat
    let wait := w0.toNat + 256 * w1.toNat
    let budget := b0.toNat + 256 * b1.toNat
    let r : RequestParams := ⟨os, kb, term, wait, ch, budget, tag⟩
    (∀ st, s.staticChecks c r = .error st → s.Completes (.request f) f c 0x10 s.linkDone st []) ∧
    ∀ k i, s.staticChecks c r = .ok (k, i) → s.admissible s.waitQueue os k = false →
      (wait = 0 → (∃ o : OutputId, os.getLsbD o = true ∧ (s.output o).state = .cut) →
        s.Completes (.request f) f c 0x10 s.linkDone .outputCut []) ∧
      (wait = 0 → (∀ o : OutputId, os.getLsbD o = true → (s.output o).state ≠ .cut) →
        s.Completes (.request f) f c 0x10 s.linkDone .conflict []) ∧
      (1 ≤ wait → 12 ≤ s.waitQueue.length → s.Completes (.request f) f c 0x10 s.linkDone .queueFull [])

/-- One pass of the review is enough: after it no entry of the wait queue is admissible against the entries ahead of it
(R59), on every state whose queue holds the WAITING slots, each once (R56). -/
def Obligations.ReviewLeavesNothingToGrant : Prop :=
  ∀ (s : State) (older younger : List SlotId) (i : SlotId) (l : Lease), s.QueueLaw →
    s.review.waitQueue = older ++ i :: younger → s.review.leaseAt i = some l →
    s.review.admissible older l.outputs l.kind = false

/-- What a review does: it is one pass over the wait queue from head to tail, in which each request is tested at its turn
against the older ones still waiting then, is granted in full, with its outputs' rise and nothing besides, when it is
admissible, and stays otherwise. So the queue loses entries and keeps the order of the rest; a slot is as it was, or its
request was waiting in the queue and is now LIVE with granted-at now and its deadline the term later, its WAIT entry gone,
its LEASE entry there and GRANTED pending for its OPEN holder (R32, R57, R59, R60, R61). -/
def Obligations.ReviewGrantsWaitingRequests : Prop :=
  ∀ s : State, s.QueueLaw →
    Pass [] s.waitQueue s s.review ∧ Spares s s.review ∧ s.review.waitQueue.Sublist s.waitQueue ∧
    ∀ i : SlotId, s.review.slot i = s.slot i ∨
      ∃ l w, s.leaseAt i = some l ∧ l.phase = .waiting w ∧ i ∈ s.waitQueue ∧ i ∉ s.review.waitQueue ∧
        s.review.slot i = ⟨(s.slot i).generation,
          some { l with phase := .live s.clock (s.clock + BitVec.ofNat 32 l.term) }⟩ ∧
        ⟨s.clock + BitVec.ofNat 32 l.term, .lease i⟩ ∈ s.review.expiry ∧
        (∀ e ∈ s.review.expiry, e.key ≠ .wait i) ∧
        (s.isOpen l.holder = true → (s.review.session l.holder).notices &&& Notice.bit .granted ≠ 0)

/-! ### Leases -/

/-- A handle is valid when its slot number is 0 to 31, the slot is occupied and its generation is the handle's, which is not 0.
The first checks of the lease commands: an invalid handle is answered STALE_HANDLE by every one of them; RELEASE, RENEW,
EXTEND, ACK_END, OFFER and WITHDRAW from another client than the holder are answered NOT_PERMITTED; nothing changes (R7, R8,
R17). -/
def Obligations.LeaseCommandsCheckHandleThenCaller : Prop :=
  (∀ (s : State) (sl g : Byte) (i : SlotId) (l : Lease),
     s.named sl g = some (i, l) ↔
       sl = byte i ∧ s.leaseAt i = some l ∧ (s.slot i).generation = g ∧ g ≠ 0) ∧
  ∀ (s : State) (i : Instr) (code : Byte) (row : CommandRow) (f : Frame) (c : Client) (sl g : Byte) (rest : List Byte),
    i.frame? = some (code, f) → i.wf = true → lookupCommand code = some row → s.InSequence f code c →
    f.params = sl :: g :: rest → f.params.length = row.length → (row.supervisor = true → c = 0) →
    (code ∈ [0x11, 0x12, 0x13, 0x14, 0x15, 0x20, 0x21, 0x22, 0x23, 0x37] → s.named sl g = none →
      s.Completes i f c code s.linkDone .staleHandle []) ∧
    (code ∈ [0x11, 0x12, 0x13, 0x14, 0x20, 0x23] → ∀ j l, s.named sl g = some (j, l) → l.holder ≠ c →
      s.Completes i f c code s.linkDone .notPermitted [])

/-- The commands that find an ENDED record leave it as it is: RELEASE, RENEW, EXTEND, OFFER and WITHDRAW by its holder and
ACCEPT and DECLINE by anyone are answered TOO_LATE, and REVOKE WRONG_STATE (R14). -/
def Obligations.EndedRecordOutlastsLateCommands : Prop :=
  ∀ (s : State) (i : Instr) (code : Byte) (row : CommandRow) (f : Frame) (c : Client) (sl g : Byte) (rest : List Byte)
    (j : SlotId) (l : Lease) (ga : Option Tick) (why : EndReason) (at_ : Tick) (detail : Option FaultId),
    i.frame? = some (code, f) → i.wf = true → lookupCommand code = some row → s.InSequence f code c →
    f.params = sl :: g :: rest → f.params.length = row.length → (row.supervisor = true → c = 0) →
    s.named sl g = some (j, l) → l.phase = .ended ga why at_ detail →
    (code ∈ [0x11, 0x12, 0x13, 0x20, 0x23] → l.holder = c → s.Completes i f c code s.linkDone .tooLate []) ∧
    (code ∈ [0x21, 0x22] → s.Completes i f c code s.linkDone .tooLate []) ∧
    (code = 0x37 → s.Completes i f c code s.linkDone .wrongState [])

/-- RELEASE by the holder frees a LIVE, OFFERED or WAITING slot, with an OFFERED lease's offer outcome VOIDED, and the review
follows (R19, R64, R115). -/
def Obligations.ReleaseFreesTheSlot : Prop :=
  ∀ (s : State) (f : Frame) (c : Client) (sl g : Byte) (i : SlotId) (l : Lease),
    s.InSequence f 0x11 c → f.params = [sl, g] → s.named sl g = some (i, l) → l.holder = c →
    (∀ ga d, l.phase = .live ga d →
      s.Completes (.release f) f c 0x11 (s.linkDone.freeSlot i).review .ok []) ∧
    (∀ w, l.phase = .waiting w →
      s.Completes (.release f) f c 0x11 (s.linkDone.freeSlot i).review .ok []) ∧
    ∀ ga d r od, l.phase = .offered ga d r od →
      let t := s.linkDone.freeSlot i
      s.Completes (.release f) f c 0x11
        (State.review { t with sessions := t.sessions.set c { t.session c with outcome := some (⟨i, g⟩, .voided) } })
        .ok []

/-- What freeing an occupied slot does: it is FREE with its generation kept, its entries leave the expiry queue and it leaves
the wait queue, the outputs it held follow; no notice is set and no other slot or session changes. In a queue that stands in
order the other entries keep theirs, and the SETTLE entries of the outputs that fall are inserted in ascending output number
(R16, R33, R37, R76). -/
def Obligations.FreeingASlot : Prop :=
  ∀ (s : State) (i : SlotId) (l : Lease), s.leaseAt i = some l →
    let t := s.freeSlot i
    Spares s t ∧ OutputsFollow s t l.heldOutputs ∧ t.slots = s.slots.set i ⟨(s.slot i).generation, none⟩ ∧
    t.sessions = s.sessions ∧ t.atnLow = s.atnLow ∧ t.waitQueue = s.waitQueue.erase i ∧
    (s.InOrder → t.expiry = s.expiryFollow t (s.expiry.filter fun e => e.key.ofSlot i = false)) ∧
    ∀ e, e.key.isSettle = false → (e ∈ t.expiry ↔ e ∈ s.expiry ∧ e.key.ofSlot i = false)

/-- What the end of a waiting or live lease does: the slot holds the end record, with granted-at kept, its entries leave the
expiry queue and a waiting one the wait queue, the outputs it held follow, a pending offer is voided, and the holder, while
OPEN, receives ENDED and for a voided offer OFFER_OUT, with ATN up to date. In a queue that stands in order the other entries
keep theirs, and the SETTLE entries of the outputs that fall are inserted in ascending output number (R11, R12, R33, R37,
R76, R114). -/
def Obligations.EndingALease : Prop :=
  ∀ (s : State) (i : SlotId) (l : Lease) (why : EndReason) (detail : Option FaultId),
    s.leaseAt i = some l → l.phase.isWaiting = true ∨ l.phase.isLive = true →
    let t := s.endLease i why detail
    Spares s t ∧ OutputsFollow s t l.heldOutputs ∧
    t.slots = s.slots.set i ⟨(s.slot i).generation, some { l with phase := .ended l.phase.grantedAt why s.clock detail }⟩ ∧
    t.waitQueue = (if l.phase.isWaiting then s.waitQueue.erase i else s.waitQueue) ∧
    (s.InOrder → t.expiry = s.expiryFollow t (s.expiry.filter fun e => e.key.ofSlot i = false)) ∧
    (∀ e, e.key.isSettle = false → (e ∈ t.expiry ↔ e ∈ s.expiry ∧ e.key.ofSlot i = false)) ∧
    (∀ c, c ≠ l.holder → t.session c = s.session c) ∧
    (t.session l.holder).notices =
      (if s.isOpen l.holder then (s.session l.holder).notices ||| Notice.bit .ended |||
        (if l.phase.offerDeadline.isSome then Notice.bit .offerOut else 0) else (s.session l.holder).notices) ∧
    (t.session l.holder).outcome =
      (if l.phase.offerDeadline.isSome then some (s.handleOf i, .voided) else (s.session l.holder).outcome) ∧
    t.atnLow = if s.isOpen l.holder then t.attention else s.atnLow

/-- ACK_END by the holder frees an ENDED slot and reports its end record, leaving notices, queues and outputs as they are; a
WAITING, LIVE or OFFERED lease is answered WRONG_STATE (R21). -/
def Obligations.AckEndFreesTheRecord : Prop :=
  ∀ (s : State) (f : Frame) (c : Client) (sl g : Byte) (i : SlotId) (l : Lease),
    s.InSequence f 0x14 c → f.params = [sl, g] → s.named sl g = some (i, l) → l.holder = c →
    (∀ ga why at_ detail, l.phase = .ended ga why at_ detail →
      s.Completes (.ackEnd f) f c 0x14 { s.linkDone with slots := s.slots.set i ⟨g, none⟩ } .ok
        ([why.code] ++ leBytes 4 at_.toNat ++ [match detail with | some ch => byte ch | none => 0xFF])) ∧
    (l.phase.isWaiting = true ∨ l.phase.isLive = true →
      s.Completes (.ackEnd f) f c 0x14 s.linkDone .wrongState [])

/-- QUERY by the holder, the receiver of a pending offer or client 0 reports the 39 bytes of R182, an absent field as FFh in
every byte; any other client is answered NOT_PERMITTED; nothing changes (R17, R23, R24, R182). -/
def Obligations.QueryReportsTheRecord : Prop :=
  ∀ (s : State) (f : Frame) (c : Client) (sl g : Byte) (i : SlotId) (l : Lease),
    s.InSequence f 0x15 c → f.params = [sl, g] → s.named sl g = some (i, l) →
    let mine := c = l.holder ∨ c = 0 ∨ ∃ ga d od, l.phase = .offered ga d c od
    let head (st : Byte) := [sl, g, st, byte l.holder, l.tag, l.outputs, l.kind.code] ++ leBytes 3 l.term
    let bound := match l.count with
      | some k => [byte k.channel] ++ leBytes 2 k.budget ++ leBytes 2 k.spent
      | none => List.replicate 5 0xFF
    (¬mine → s.Completes (.query f) f c 0x15 s.linkDone .notPermitted []) ∧
    (mine →
      (∀ w, l.phase = .waiting w → s.Completes (.query f) f c 0x15 s.linkDone .ok
        (head 0x01 ++ [byte (s.waitQueue.idxOf i)] ++ leBytes 4 w.toNat ++ List.replicate 8 0xFF ++ bound ++
          List.replicate 11 0xFF)) ∧
      (∀ ga d, l.phase = .live ga d → s.Completes (.query f) f c 0x15 s.linkDone .ok
        (head 0x02 ++ List.replicate 5 0xFF ++ leBytes 4 ga.toNat ++ leBytes 4 d.toNat ++ bound ++
          List.replicate 11 0xFF)) ∧
      (∀ ga d r od, l.phase = .offered ga d r od → s.Completes (.query f) f c 0x15 s.linkDone .ok
        (head 0x03 ++ List.replicate 5 0xFF ++ leBytes 4 ga.toNat ++ leBytes 4 d.toNat ++ bound ++
          [byte r] ++ leBytes 4 od.toNat ++ List.replicate 6 0xFF)) ∧
      ∀ ga why at_ detail, l.phase = .ended ga why at_ detail → s.Completes (.query f) f c 0x15 s.linkDone .ok
        (head 0x04 ++ List.replicate 5 0xFF ++
          (match ga with | some t => leBytes 4 t.toNat | none => List.replicate 4 0xFF) ++ List.replicate 4 0xFF ++
          bound ++ List.replicate 5 0xFF ++ [why.code] ++ leBytes 4 at_.toNat ++
          [match detail with | some ch => byte ch | none => 0xFF]))

/-- REVOKE ends a waiting or live lease with reason REVOKED, and the review follows (R26). -/
def Obligations.RevokeEndsTheLease : Prop :=
  ∀ (s : State) (f : Frame) (sl g : Byte) (i : SlotId) (l : Lease),
    s.InSequence f 0x37 0 → f.params = [sl, g] → s.named sl g = some (i, l) →
    l.phase.isWaiting = true ∨ l.phase.isLive = true →
    s.Completes (.revoke f) f 0 0x37 (s.linkDone.endLease i .revoked none).review .ok []

/-! ### Reports -/

/-- LIST, STATUS, READ_COUNTS, FAULT_STATUS and READ_SETTINGS report the caller's handles, the 20-byte snapshot, the totals
with the clock, the fault channels' states and one section of the settings, and change nothing but the answer; a section
above 04h is answered BAD_PARAMETER (R25, R100, R136, R154, R162). -/
def Obligations.ReportsChangeNothing : Prop :=
  ((∀ (s : State) (f : Frame) (c : Client), s.InSequence f 0x16 c → f.params = [] →
     s.Completes (.list f) f c 0x16 s.linkDone .ok
       ([byte (s.occupied c)] ++
         ((List.finRange 32).filter (s.heldBy c)).flatMap fun i : SlotId => [byte i, (s.slot i).generation])) ∧
   ∀ (s : State) (f : Frame) (c : Client), s.InSequence f 0x05 c → f.params = [] →
     s.Completes (.status f) f c 0x05 s.linkDone .ok
       ([s.mode.code] ++ leBytes 4 s.clock.toNat ++ ((List.finRange 8).map fun o => (s.output o).state.code) ++
         [byte ((List.finRange 32).countP fun i => (s.leaseAt i).isNone), byte s.waitQueue.length] ++
         ((List.finRange 4).map fun ch => (s.fault ch).state.code) ++ [(s.session c).notices.zeroExtend 8])) ∧
  (∀ (s : State) (f : Frame) (c : Client), s.InSequence f 0x28 c → f.params = [] →
    s.Completes (.readCounts f) f c 0x28 s.linkDone .ok
      (leBytes 3 (s.count 0).total.toNat ++ leBytes 3 (s.count 1).total.toNat ++ leBytes 3 (s.count 2).total.toNat ++
        leBytes 3 (s.count 3).total.toNat ++ leBytes 4 s.clock.toNat)) ∧
  (∀ (s : State) (f : Frame), s.InSequence f 0x3A 0 → f.params = [] →
    s.Completes (.faultStatus f) f 0 0x3A s.linkDone .ok
      ((List.finRange 4).flatMap fun ch =>
        [(s.fault ch).state.code, byte (s.fault ch).tripCount, if (s.fault ch).filtered then 0x01 else 0x00])) ∧
  ∀ (s : State) (f : Frame) (b : Byte), s.InSequence f 0x3B 0 → f.params = [b] →
    (5 ≤ b.toNat → s.Completes (.readSettings f) f 0 0x3B s.linkDone .badParameter []) ∧
    (b = 0x00 → s.Completes (.readSettings f) f 0 0x3B s.linkDone .ok ((List.finRange 8).flatMap fun o =>
      leBytes 3 (s.output o).maxTerm ++ leBytes 2 (s.output o).gap ++ [(s.output o).drive.code])) ∧
    (b = 0x01 → s.Completes (.readSettings f) f 0 0x3B s.linkDone .ok
      ((List.finRange 8).map fun o => (s.output o).partners)) ∧
    (b = 0x02 → s.Completes (.readSettings f) f 0 0x3B s.linkDone .ok ((List.finRange 4).flatMap fun ch =>
      [if (s.fault ch).enabled then 0x01 else 0x00, if (s.fault ch).activeHigh then 0x00 else 0x01,
        byte (s.fault ch).filterSamples, (s.fault ch).cutSet] ++ leBytes 2 (s.fault ch).recoveryDelay ++
        [byte (s.fault ch).latchLimit] ++ leBytes 3 (s.fault ch).quietPeriod)) ∧
    (b = 0x03 → s.Completes (.readSettings f) f 0 0x3B s.linkDone .ok ((List.finRange 4).flatMap fun ch =>
      [if (s.count ch).enabled then 0x01 else 0x00, (s.count ch).edge.code, (s.count ch).interval.code])) ∧
    (b = 0x04 → s.Completes (.readSettings f) f 0 0x3B s.linkDone .ok
      (((List.finRange 8).map fun c => byte (s.session c).quota) ++ (List.finRange 8).map fun c => byte (s.occupied c)))

/-! ### Outputs -/

/-- Recomputing a set of outputs changes their states, lines and SETTLE entries by whether live leases name them, and nothing
else: in a queue that stands in order the entries of the outputs that rise go, the others keep their order, and those of the
outputs that fall are inserted in ascending output number (R31, R32, R33, R37, R38, R76). -/
def Obligations.OutputsFollowTheirHolders : Prop :=
  ∀ (s : State) (S : OutputSet),
    OutputsFollow s (s.recomputeAll S) S ∧ Spares s (s.recomputeAll S) ∧ (s.recomputeAll S).slots = s.slots ∧
    (s.recomputeAll S).sessions = s.sessions ∧ (s.recomputeAll S).waitQueue = s.waitQueue ∧
    (s.recomputeAll S).atnLow = s.atnLow ∧
    (s.InOrder → (s.recomputeAll S).expiry = s.expiryFollow (s.recomputeAll S) s.expiry) ∧
    ∀ e, e.key.isSettle = false → (e ∈ (s.recomputeAll S).expiry ↔ e ∈ s.expiry)

/-- SET_OUTPUT, for the supervisor alone: WRONG_MODE in RUN; in SETUP BAD_PARAMETER when a parameter is out of its range, else
the max term, gap and drive level are written together and the line stands at the level they call for (R45). -/
def Obligations.SetOutputWritesTheSettings : Prop :=
  ∀ (s : State) (f : Frame) (b m0 m1 m2 g0 g1 d : Byte), f.params = [b, m0, m1, m2, g0, g1, d] →
    (∀ c : Client, c ≠ 0 → s.InSequence f 0x32 c → s.Completes (.setOutput f) f c 0x32 s.linkDone .notPermitted []) ∧
    (s.InSequence f 0x32 0 →
      let term := m0.toNat + 256 * m1.toNat + 65536 * m2.toNat
      let gap := g0.toNat + 256 * g1.toNat
      (s.mode = .run → s.Completes (.setOutput f) f 0 0x32 s.linkDone .wrongMode []) ∧
      (s.mode = .setup →
        (8 ≤ b.toNat ∨ 600000 < term ∨ 5000 < gap ∨ 2 ≤ d.toNat →
          s.Completes (.setOutput f) f 0 0x32 s.linkDone .badParameter []) ∧
        ∀ (o : OutputId) (drive : Drive), b = byte o → d = drive.code → term ≤ 600000 → gap ≤ 5000 →
          let out := { s.output o with maxTerm := term, gap := gap, drive := drive }
          s.Completes (.setOutput f) f 0 0x32
            { s.linkDone with outputs := s.outputs.set o out, gLines := s.gLines.set o out.line } .ok []))

/-- SET_EXCLUSION, for the supervisor alone: WRONG_MODE in RUN; in SETUP BAD_PARAMETER when an output is above 07h, the two
are equal or the flag is neither 00h nor 01h, else the pair is set or cleared on both sides and nothing else changes; no
output is ON in SETUP (R46). -/
def Obligations.SetExclusionWritesThePair : Prop :=
  ∀ (s : State) (f : Frame) (a b flag : Byte), f.params = [a, b, flag] →
    (∀ c : Client, c ≠ 0 → s.InSequence f 0x33 c → s.Completes (.setExclusion f) f c 0x33 s.linkDone .notPermitted []) ∧
    (s.mode = .setup → s.QueueLaw → s.OutputLaw → ∀ o, (s.output o).state ≠ .on) ∧
    (s.InSequence f 0x33 0 →
      (s.mode = .run → s.Completes (.setExclusion f) f 0 0x33 s.linkDone .wrongMode []) ∧
      (s.mode = .setup →
        (8 ≤ a.toNat ∨ 8 ≤ b.toNat ∨ a = b ∨ 2 ≤ flag.toNat →
          s.Completes (.setExclusion f) f 0 0x33 s.linkDone .badParameter []) ∧
        ∀ x y : OutputId, a = byte x → b = byte y → x ≠ y →
          (flag = 0x01 → s.Completes (.setExclusion f) f 0 0x33
            { s.linkDone with
              outputs := (s.outputs.set x { s.output x with partners := (s.output x).partners ||| BitVec.twoPow 8 y }).set y
                { s.output y with partners := (s.output y).partners ||| BitVec.twoPow 8 x } } .ok []) ∧
          (flag = 0x00 → s.Completes (.setExclusion f) f 0 0x33
            { s.linkDone with
              outputs := (s.outputs.set x { s.output x with partners := (s.output x).partners &&& ~~~(BitVec.twoPow 8 y) }).set y
                { s.output y with partners := (s.output y).partners &&& ~~~(BitVec.twoPow 8 x) } } .ok [])))

/-! ### The clock and the deadlines -/

/-- Insertion into the expiry queue puts the new entry behind every entry with a smaller or equal number of ticks remaining
and ahead of every entry with more, and keeps the order of the rest; so an ordered queue stays ordered (R75, R76). R82's
bullets state the reverse for a lease's LEASE and OFFER entries of one deadline: that R75 and R76 hold there too is the
model's choice (assumption 25). -/
def Obligations.InsertionKeepsTheOrder : Prop :=
  ∀ (now : Tick) (e : Entry) (q : List Entry),
    q.Pairwise (fun a b => remaining now a.deadline ≤ remaining now b.deadline) →
    insertEntry now e q =
      (q.filter fun x => remaining now x.deadline ≤ remaining now e.deadline) ++
        e :: (q.filter fun x => remaining now e.deadline < remaining now x.deadline) ∧
    (insertEntry now e q).Pairwise (fun a b => remaining now a.deadline ≤ remaining now b.deadline)

/-- CLOCK_ADVANCE finishes the events of the ending tick, raises the clock by 1 modulo 2³², and every enabled fault channel
samples its line; delivered within the advance, the due entries and the changes of level then follow: the entry at the front
is taken out and its owner's rule acts, as by its own row, review and all, before the next one is delivered, and once none is
due the due changes of level are taken, each as by its own row, in ascending channel order. A tick with nothing due has no
events; outside running the clock holds (R72, R79, R80, R122). The two ways of delivery, the due change kept in
changeDue and the pin levels kept in State.pins are the model's (assumptions 6, 7 and 3). -/
def Obligations.ClockAdvanceTicksAndSamples : Prop :=
  ∀ (s : State) (lines : Vector Bool 4),
    (s.power = .running →
      let m := s.finishTick
      let t := { m with
        clock := m.clock + 1
        pins := { m.pins with fault := lines }
        faults := Vector.ofFn fun ch : FaultId =>
          let x := m.fault ch
          if x.enabled = false then x
          else if (lines[ch] = x.activeHigh ↔ x.filtered = true) then { x with run := 0 }
          else if x.run + 1 < x.filterSamples then { x with run := x.run + 1 }
          else { x with changeDue := true } }
      exec (.clockAdvance lines .stepwise) s = .next t ∧ exec (.clockAdvance lines .within) s = .next t.finishTick) ∧
    (s.power ≠ .running → ∀ how, exec (.clockAdvance lines how) s = .next s) ∧
    ((∀ e ∈ s.expiry, e.deadline ≠ s.clock) → (∀ ch, (s.fault ch).changeDue = false) → s.finishTick = s) ∧
    (∀ k q, s.expiry = ⟨s.clock, k⟩ :: q →
      (s.power = .running → exec k.row s = .next (State.deliver { s with expiry := q } k)) ∧
      (s.DeadlineLaw → s.finishTick = (State.deliver { s with expiry := q } k).finishTick)) ∧
    ((∀ e ∈ s.expiry, e.deadline ≠ s.clock) →
      s.finishTick = (List.finRange 4).foldl (fun t ch => if (t.fault ch).changeDue then t.levelChange ch else t) s) ∧
    ∀ ch, s.power = .running → (s.fault ch).changeDue = true →
      ((s.fault ch).filtered = false → (s.fault ch).state = .idle ∨ (s.fault ch).state = .recovering →
        exec (.faultTrip ch) s = .next (s.levelChange ch)) ∧
      ((s.fault ch).filtered = true → (s.fault ch).state = .tripped →
        exec (.faultClear ch) s = .next (s.levelChange ch)) ∧
      ((s.fault ch).state = .latched → exec (.latchedLevelChange ch) s = .next (s.levelChange ch))

/-- After an advance that delivers, nothing that is due is left: every entry's deadline lies 1 to 600000 ticks ahead and no
change of level is due (R73, R79, R122). Delivery within the advance, and the due change kept in changeDue, are the model's
(assumptions 6 and 7). -/
def Obligations.AdvanceDeliversEverythingDue : Prop :=
  ∀ (s t : State) (lines : Vector Bool 4), s.power = .running → s.DeadlineLaw →
    exec (.clockAdvance lines .within) s = .next t →
    (∀ e ∈ t.expiry, 1 ≤ remaining t.clock e.deadline ∧ remaining t.clock e.deadline ≤ 600000) ∧
    ∀ ch, (t.fault ch).changeDue = false

/-- A LEASE entry at the front and due ends its live lease EXPIRED, a WAIT entry its waiting request WAIT_EXPIRED, and the
review follows (R62, R79, R83). That the row changes nothing where its entry is not at the front or not due is the model's
(assumption 9). -/
def Obligations.LeaseAndWaitEntriesEndTheirLeases : Prop :=
  ∀ (s : State) (e : Entry) (q : List Entry) (i : SlotId) (l : Lease),
    s.power = .running → s.expiry = e :: q → s.leaseAt i = some l →
    (e = ⟨s.clock, .lease i⟩ → l.phase.isLive = true →
      exec (.leaseExpiry i) s = .next (State.endLease { s with expiry := q } i .expired none).review) ∧
    (e = ⟨s.clock, .wait i⟩ → l.phase.isWaiting = true →
      exec (.waitExpiry i) s = .next (State.endLease { s with expiry := q } i .waitExpired none).review) ∧
    (e ≠ ⟨s.clock, .lease i⟩ → exec (.leaseExpiry i) s = .next s) ∧
    (e ≠ ⟨s.clock, .wait i⟩ → exec (.waitExpiry i) s = .next s)

/-- An OFFER entry due returns its lease to LIVE with the giver: the deadline is kept, the giver's outcome is TIMED_OUT and
OFFER_OUT is pending for the OPEN giver (R113). -/
def Obligations.OfferTimeoutReturnsTheLease : Prop :=
  ∀ (s : State) (q : List Entry) (i : SlotId) (l : Lease) (ga d od : Tick) (r : Client),
    s.power = .running → s.expiry = ⟨s.clock, .offer i⟩ :: q → (∀ e ∈ q, e.key ≠ .offer i) →
    s.leaseAt i = some l → l.phase = .offered ga d r od → s.isOpen l.holder = true →
    exec (.offerTimeout i) s = .next (State.updateAtn { s with
      expiry := q
      slots := s.slots.set i ⟨(s.slot i).generation, some { l with phase := .live ga d }⟩
      sessions := s.sessions.set l.holder
        { s.session l.holder with
          notices := (s.session l.holder).notices ||| Notice.bit .offerOut
          outcome := some (⟨i, (s.slot i).generation⟩, .timedOut) } })

/-- A SETTLE entry due takes its output from SETTLE to OFF with a review; a QUIET entry due sets its IDLE channel's trip count
to 0 and changes nothing else (R34, R130). -/
def Obligations.SettleAndQuietEntries : Prop :=
  (∀ (s : State) (q : List Entry) (o : OutputId),
    s.power = .running → s.expiry = ⟨s.clock, .settle o⟩ :: q → (s.output o).state = .settle →
    let out := { s.output o with state := .off }
    exec (.settleEnd o) s = .next (State.review { s with
      expiry := q, outputs := s.outputs.set o out, gLines := s.gLines.set o out.line })) ∧
  ∀ (s : State) (q : List Entry) (ch : FaultId),
    s.power = .running → s.expiry = ⟨s.clock, .quiet ch⟩ :: q → (s.fault ch).state = .idle →
    exec (.quietDue ch) s = .next { s with
      expiry := q, faults := s.faults.set ch { s.fault ch with tripCount := 0 } }

/-- RENEW by the holder of a live lease, with a term of 1 to the smallest max term of its outputs, sets term and deadline
counted from now and moves the LEASE entry; a longer or zero term is answered BAD_PARAMETER and a WAITING lease WRONG_STATE;
nothing else changes (R86, R87). That the moved entry stands behind an OFFER entry of its deadline, as R76 and R87 say and
R82's bullets do not, is the model's choice (assumption 25). -/
def Obligations.RenewCountsFromNow : Prop :=
  ∀ (s : State) (f : Frame) (c : Client) (sl g t0 t1 t2 : Byte) (i : SlotId) (l : Lease),
    s.InSequence f 0x12 c → f.params = [sl, g, t0, t1, t2] → s.named sl g = some (i, l) → l.holder = c → s.SettingLaw →
    l.outputs ≠ 0 →
    let n := t0.toNat + 256 * t1.toNat + 65536 * t2.toNat
    let d := s.clock + BitVec.ofNat 32 n
    (∀ w, l.phase = .waiting w → s.Completes (.renew f) f c 0x12 s.linkDone .wrongState []) ∧
    (l.phase.isLive = true → n = 0 ∨ (∃ o : OutputId, l.outputs.getLsbD o = true ∧ (s.output o).maxTerm < n) →
      s.Completes (.renew f) f c 0x12 s.linkDone .badParameter []) ∧
    (l.phase.isLive = true → 1 ≤ n → (∀ o : OutputId, l.outputs.getLsbD o = true → n ≤ (s.output o).maxTerm) →
      s.Completes (.renew f) f c 0x12
        { s.linkDone with
          slots := s.slots.set i ⟨g, some { l with term := n, phase := l.phase.withDeadline d }⟩
          expiry := insertEntry s.clock ⟨d, .lease i⟩ (s.expiry.filter fun e => e.key ≠ .lease i) }
        .ok (leBytes 4 d.toNat))

/-! ### Counting -/

/-- SET_COUNT, for the supervisor alone: WRONG_MODE in RUN; in SETUP BAD_PARAMETER when a parameter is out of its range, else
the settings are written and the channel restarts with its total 0 and its levels low (R98). -/
def Obligations.SetCountRestartsTheChannel : Prop :=
  ∀ (s : State) (f : Frame) (b en ed iv : Byte), f.params = [b, en, ed, iv] →
    (∀ c : Client, c ≠ 0 → s.InSequence f 0x35 c → s.Completes (.setCount f) f c 0x35 s.linkDone .notPermitted []) ∧
    (s.InSequence f 0x35 0 →
      (s.mode = .run → s.Completes (.setCount f) f 0 0x35 s.linkDone .wrongMode []) ∧
      (s.mode = .setup →
        (4 ≤ b.toNat ∨ 2 ≤ en.toNat ∨ 3 ≤ ed.toNat ∨ 4 ≤ iv.toNat →
          s.Completes (.setCount f) f 0 0x35 s.linkDone .badParameter []) ∧
        ∀ (ch : CountId) (on : Bool) (edge : Edge) (interval : Interval),
          b = byte ch → en = (if on then 0x01 else 0x00) → ed = edge.code → iv = interval.code →
          s.Completes (.setCount f) f 0 0x35
            { s.linkDone with counts := s.counts.set ch ⟨on, edge, interval, false, false, 0⟩ } .ok []))

/-- COUNT_SAMPLE: the filtered level changes when the sample equals the last sample and differs from it, and the sample then
becomes the last; a sample that makes no counted edge changes nothing else, and one that makes it counts the edge; a
disabled channel takes no sample. COUNTED_EDGE is the sample that makes the edge (R92, R93; assumptions 3 and 8). A
restart's edge is one of these wherever its sample stands (R99, assumption 26). -/
def Obligations.CountSamplesFilterTheLine : Prop :=
  ∀ (s : State) (ch : CountId) (level : Bool),
    let k := s.count ch
    let changes := level = k.lastSample ∧ level ≠ k.filtered
    let counted := changes ∧ (k.edge = .both ∨ (k.edge = .rising ∧ level = true) ∨ (k.edge = .falling ∧ level = false))
    let t := { s with
      pins := { s.pins with count := s.pins.count.set ch level }
      counts := s.counts.set ch { k with filtered := if changes then level else k.filtered, lastSample := level } }
    (s.power = .running → k.enabled = true → ¬counted → exec (.countSample ch level) s = .next t) ∧
    (s.power = .running → k.enabled = true → counted →
      exec (.countSample ch level) s = .next (t.countEdge ch) ∧ exec (.countedEdge ch) s = .next (t.countEdge ch)) ∧
    (s.power ≠ .running ∨ k.enabled = false → exec (.countSample ch level) s = .next s ∧ exec (.countedEdge ch) s = .next s)

/-- A counted edge raises its channel's total by 1 modulo 2²⁴ and charges 1 to every live lease bound to the channel; a lease
whose spent count reaches its budget ends COUNT_SPENT in the same event, in ascending slot order, by the end of a lease
(EndingALease says all it does); one review follows when a lease has ended and none otherwise. So every other slot is as it
was, but that the review may grant waiting requests (R94, R95, R96). The ends must find spent counts below budgets, as the
record law has them. -/
def Obligations.CountedEdgeChargesLiveLeases : Prop :=
  ∀ (s : State) (ch : CountId),
    let t := s.countEdge ch
    let ends := (List.finRange 32).filter fun i => match s.boundTo ch i with
      | some (_, k) => k.spent + 1 == k.budget
      | none => false
    let charged := { s with
      counts := s.counts.set ch { s.count ch with total := (s.count ch).total + 1 }
      slots := Vector.ofFn fun i : SlotId => match s.boundTo ch i with
        | some (l, k) => ⟨(s.slot i).generation, some { l with count := some { k with spent := k.spent + 1 } }⟩
        | none => s.slot i }
    t = (if ends = [] then charged else (ends.foldl (fun u i => u.endLease i .countSpent none) charged).review) ∧
    t.counts = s.counts.set ch { s.count ch with total := (s.count ch).total + 1 } ∧
    (∀ i l k, s.leaseAt i = some l → l.phase.isLive = true → l.count = some k → k.channel = ch →
      t.slot i = ⟨(s.slot i).generation, some
        (if k.spent + 1 = k.budget then
          { l with count := some { k with spent := k.spent + 1 }
                   phase := .ended l.phase.grantedAt .countSpent s.clock none }
        else { l with count := some { k with spent := k.spent + 1 } })⟩) ∧
    (∀ i : SlotId, s.boundTo ch i = none → s.waitingAt i = false → t.slot i = s.slot i) ∧
    (∀ i, s.waitingAt i = true → t.slot i = s.slot i ∨ t.liveAt i = true) ∧
    ((∀ i l k, s.leaseAt i = some l → l.phase.isLive = true → l.count = some k → k.channel = ch →
        k.spent + 1 ≠ k.budget) →
      t.outputs = s.outputs ∧ t.expiry = s.expiry ∧ t.waitQueue = s.waitQueue ∧ t.sessions = s.sessions ∧
      t.atnLow = s.atnLow ∧ ∀ i : SlotId, s.boundTo ch i = none → t.slot i = s.slot i) ∧
    t.faults = s.faults ∧ t.clock = s.clock ∧ t.mode = s.mode ∧ t.link = s.link ∧ t.pins = s.pins

/-- EXTEND by the holder of a live bound lease raises its budget by 1 to 65535 up to 65535 and reports the new budget and the
spent count; no bound, an addition of 0 or a sum above 65535 is answered BAD_PARAMETER, a WAITING lease WRONG_STATE (R101). -/
def Obligations.ExtendRaisesTheBudget : Prop :=
  ∀ (s : State) (f : Frame) (c : Client) (sl g a0 a1 : Byte) (i : SlotId) (l : Lease),
    s.InSequence f 0x13 c → f.params = [sl, g, a0, a1] → s.named sl g = some (i, l) → l.holder = c →
    let n := a0.toNat + 256 * a1.toNat
    (∀ w, l.phase = .waiting w → s.Completes (.extend f) f c 0x13 s.linkDone .wrongState []) ∧
    (l.phase.isLive = true →
      (l.count = none ∨ n = 0 ∨ (∃ k, l.count = some k ∧ 65535 < k.budget + n) →
        s.Completes (.extend f) f c 0x13 s.linkDone .badParameter []) ∧
      ∀ k, l.count = some k → 1 ≤ n → k.budget + n ≤ 65535 →
        s.Completes (.extend f) f c 0x13
          { s.linkDone with
            slots := s.slots.set i ⟨g, some { l with count := some { k with budget := k.budget + n } }⟩ }
          .ok (leBytes 2 (k.budget + n) ++ leBytes 2 k.spent))

/-! ### Lease transfer -/

/-- OFFER by the holder of a LIVE lease to another OPEN client for 1 to 10000 ticks makes it OFFERED with an OFFER entry, and
the receiver has OFFER_IN pending; an unfit receiver or time is answered BAD_PARAMETER, an OFFERED or WAITING lease
WRONG_STATE (R107). That the OFFER entry stands behind a LEASE entry of its deadline, as R76 says and R82's bullets do not, is
the model's choice (assumption 25). -/
def Obligations.OfferMakesTheLeaseOffered : Prop :=
  ∀ (s : State) (f : Frame) (c : Client) (sl g b t0 t1 : Byte) (i : SlotId) (l : Lease),
    s.InSequence f 0x20 c → f.params = [sl, g, b, t0, t1] → s.named sl g = some (i, l) → l.holder = c →
    let n := t0.toNat + 256 * t1.toNat
    let od := s.clock + BitVec.ofNat 32 n
    (l.phase.isWaiting = true ∨ l.phase.offerDeadline.isSome = true →
      s.Completes (.offer f) f c 0x20 s.linkDone .wrongState []) ∧
    ∀ ga d, l.phase = .live ga d →
      (8 ≤ b.toNat ∨ (∃ r : Client, b = byte r ∧ (s.isOpen r = false ∨ r = c)) ∨ n = 0 ∨ 10000 < n →
        s.Completes (.offer f) f c 0x20 s.linkDone .badParameter []) ∧
      ∀ r : Client, b = byte r → s.isOpen r = true → r ≠ c → 1 ≤ n → n ≤ 10000 →
        s.Completes (.offer f) f c 0x20
          (State.updateAtn { s.linkDone with
            slots := s.slots.set i ⟨g, some { l with phase := .offered ga d r od }⟩
            expiry := insertEntry s.clock ⟨od, .offer i⟩ s.expiry
            sessions := s.sessions.set r
               { s.session r with notices := (s.session r).notices ||| Notice.bit .offerIn } })
          .ok (leBytes 4 od.toNat)

/-- ACCEPT by the receiver of a pending offer, with a quota place free, makes it the holder of the LIVE lease with its
deadline kept, removes the OFFER entry, and the OPEN giver has outcome ACCEPTED and OFFER_OUT; at its quota it is answered
QUOTA_EXCEEDED; a lease that is not offered to the caller WRONG_STATE (R109, R110). -/
def Obligations.AcceptMovesTheLease : Prop :=
  ∀ (s : State) (f : Frame) (c : Client) (sl g : Byte) (i : SlotId) (l : Lease),
    s.InSequence f 0x21 c → f.params = [sl, g] → s.named sl g = some (i, l) → s.QuotaLaw →
    (l.phase.isWaiting = true ∨ (∃ ga d, l.phase = .live ga d) ∨ (∃ ga d r od, l.phase = .offered ga d r od ∧ r ≠ c) →
      s.Completes (.accept f) f c 0x21 s.linkDone .wrongState []) ∧
    ∀ ga d od, l.phase = .offered ga d c od →
      (s.occupied c = (s.session c).quota → s.Completes (.accept f) f c 0x21 s.linkDone .quotaExceeded []) ∧
      (s.occupied c ≠ (s.session c).quota → s.isOpen l.holder = true →
        s.Completes (.accept f) f c 0x21
          (State.updateAtn { s.linkDone with
            slots := s.slots.set i ⟨g, some { l with holder := c, phase := .live ga d }⟩
            expiry := s.expiry.filter fun e => e.key ≠ .offer i
            sessions := s.sessions.set l.holder
              { s.session l.holder with
                notices := (s.session l.holder).notices ||| Notice.bit .offerOut
                outcome := some (⟨i, g⟩, .accepted) } })
          .ok (leBytes 4 d.toNat))

/-- DECLINE by the receiver and WITHDRAW by the giver return an OFFERED lease to LIVE with the giver, remove the OFFER entry
and set the giver's outcome, DECLINE with OFFER_OUT for the OPEN giver and WITHDRAW with no notice; a lease in another
unended state, or for DECLINE offered to another, is answered WRONG_STATE (R111, R112). -/
def Obligations.DeclineAndWithdrawReturnTheLease : Prop :=
  ∀ (s : State) (f : Frame) (c : Client) (sl g : Byte) (i : SlotId) (l : Lease),
    f.params = [sl, g] → s.named sl g = some (i, l) →
    let back (ga d : Tick) (o : Outcome) (n : NoticeSet) : State := { s.linkDone with
      slots := s.slots.set i ⟨g, some { l with phase := .live ga d }⟩
      expiry := s.expiry.filter fun e => e.key ≠ .offer i
      sessions := s.sessions.set l.holder
        { s.session l.holder with notices := (s.session l.holder).notices ||| n, outcome := some (⟨i, g⟩, o) } }
    (s.InSequence f 0x22 c →
      (l.phase.isWaiting = true ∨ (∃ ga d, l.phase = .live ga d) ∨
          (∃ ga d r od, l.phase = .offered ga d r od ∧ r ≠ c) →
        s.Completes (.decline f) f c 0x22 s.linkDone .wrongState []) ∧
      ∀ ga d od, l.phase = .offered ga d c od → s.isOpen l.holder = true →
        s.Completes (.decline f) f c 0x22 (back ga d .declined (Notice.bit .offerOut)).updateAtn .ok []) ∧
    (s.InSequence f 0x23 c → l.holder = c →
      (l.phase.isWaiting = true ∨ (∃ ga d, l.phase = .live ga d) →
        s.Completes (.withdraw f) f c 0x23 s.linkDone .wrongState []) ∧
      ∀ ga d r od, l.phase = .offered ga d r od →
        s.Completes (.withdraw f) f c 0x23 (back ga d .withdrawn 0) .ok [])

/-! ### Fault channels -/

/-- FAULT_TRIP: when the due sample makes an IDLE or RECOVERING channel's filtered level active, the trip count rises by 1 and
the channel is LATCHED at its limit and TRIPPED below it, its RECOVER and QUIET entries go, every live lease on the cut set
ends FAULT naming the channel, in ascending slot order, by the end of a lease (EndingALease says all it does), every output
of the cut set is in CUT by it with its line at the inactive level and its SETTLE entry gone, and the OPEN supervisor has
FAULT pending; one review follows when a lease ended or an output of the cut set was in SETTLE, and none otherwise. So the
rest of the table is as it was, but that the review may grant waiting requests (R35, R124, R125, R126). The due change kept
in changeDue is the model's (assumption 7). -/
def Obligations.TripCutsAndEnds : Prop :=
  ∀ (s : State) (ch : FaultId), s.power = .running → (s.fault ch).changeDue = true → (s.fault ch).filtered = false →
    (s.fault ch).state = .idle ∨ (s.fault ch).state = .recovering →
    let x := s.fault ch
    let y := { x with filtered := true, run := 0, changeDue := false, tripCount := x.tripCount + 1 }
    let ends := (List.finRange 32).filter fun i => match s.leaseAt i with
      | some l => l.phase.isLive && l.outputs &&& x.cutSet != 0
      | none => false
    let e : State := ends.foldl (fun u i => u.endLease i .fault (some ch)) { s with
      faults := s.faults.set ch y
      expiry := s.expiry.filter fun d => d.key ≠ .recover ch ∧ d.key ≠ .quiet ch }
    let cut (o : OutputId) : Output :=
      if x.cutSet.getLsbD o then
        { e.output o with state := .cut, cutBy := (e.output o).cutBy ||| BitVec.twoPow 4 ch }
      else e.output o
    let m := State.notify { e with
      faults := s.faults.set ch { y with state := if x.tripCount + 1 = x.latchLimit then .latched else .tripped }
      outputs := Vector.ofFn cut
      gLines := Vector.ofFn fun o : OutputId => if x.cutSet.getLsbD o then (cut o).line else e.gLines[o]
      expiry := e.expiry.filter fun d => ∀ o : OutputId, x.cutSet.getLsbD o = true → (e.output o).state = .settle →
        d.key ≠ .settle o } 0 .fault
    ∃ t, exec (.faultTrip ch) s = .next t ∧
      t = (if ends = [] ∧ ∀ o : OutputId, x.cutSet.getLsbD o = true → (e.output o).state ≠ .settle then m else m.review) ∧
      Keeps s t ∧
      t.faults = s.faults.set ch { x with
        filtered := true, run := 0, changeDue := false, tripCount := x.tripCount + 1
        state := if x.tripCount + 1 = x.latchLimit then .latched else .tripped } ∧
      (∀ e ∈ t.expiry, e.key ≠ .recover ch ∧ e.key ≠ .quiet ch) ∧
      (∀ i l, s.leaseAt i = some l → l.phase.isLive = true → l.outputs &&& x.cutSet ≠ 0 →
        t.slot i = ⟨(s.slot i).generation,
          some { l with phase := .ended l.phase.grantedAt .fault s.clock (some ch) }⟩) ∧
      (∀ i, s.cutLease x.cutSet i = false → s.waitingAt i = false → t.slot i = s.slot i) ∧
      (∀ i, s.waitingAt i = true → t.slot i = s.slot i ∨ t.liveAt i = true) ∧
      (∀ o : OutputId, x.cutSet.getLsbD o = true →
        (t.output o).state = .cut ∧ (t.output o).cutBy = (s.output o).cutBy ||| BitVec.twoPow 4 ch) ∧
      (∀ o : OutputId, x.cutSet.getLsbD o = false → (t.output o).cutBy = (s.output o).cutBy) ∧
      (s.isOpen 0 = true → (t.session 0).notices &&& Notice.bit .fault ≠ 0)

/-- FAULT_CLEAR: when the due sample makes a TRIPPED channel's level inactive, it goes to RECOVERING with a RECOVER entry a
recovery delay from now, its cut kept; LATCHED_LEVEL_CHANGE: a LATCHED channel's due change alters its filtered level alone
(R127, R131). The due change kept in changeDue is the model's (assumption 7). -/
def Obligations.ClearAndLatchedChange : Prop :=
  ∀ (s : State) (ch : FaultId), s.power = .running → (s.fault ch).changeDue = true →
    let x := s.fault ch
    (x.state = .tripped → x.filtered = true →
      exec (.faultClear ch) s = .next { s with
        faults := s.faults.set ch { x with filtered := false, run := 0, changeDue := false, state := .recovering }
        expiry := insertEntry s.clock ⟨s.clock + BitVec.ofNat 32 x.recoveryDelay, .recover ch⟩ s.expiry }) ∧
    (x.state = .latched →
      exec (.latchedLevelChange ch) s = .next { s with
        faults := s.faults.set ch { x with filtered := !x.filtered, run := 0, changeDue := false } })

/-- A RECOVER entry due takes its channel from RECOVERING to IDLE with its trip count kept, lifts its cut from the outputs of
its cut set, which go to OFF where no other channel cuts them, inserts a QUIET entry, sets FAULT for the supervisor, and one
review follows when an output left CUT (R36, R129). -/
def Obligations.RecoverLiftsTheCut : Prop :=
  ∀ (s : State) (q : List Entry) (ch : FaultId),
    s.power = .running → s.expiry = ⟨s.clock, .recover ch⟩ :: q → (s.fault ch).state = .recovering →
    let x := s.fault ch
    let lifted (o : OutputId) : Output :=
      if x.cutSet.getLsbD o then
        { s.output o with
          cutBy := (s.output o).cutBy &&& ~~~(BitVec.twoPow 4 ch)
          state := if (s.output o).state = .cut ∧ (s.output o).cutBy &&& ~~~(BitVec.twoPow 4 ch) = 0 then .off
            else (s.output o).state }
      else s.output o
    let t := State.notify { s with
      faults := s.faults.set ch { x with state := .idle }
      outputs := Vector.ofFn lifted
      gLines := Vector.ofFn fun o : OutputId => if x.cutSet.getLsbD o then (lifted o).line else s.gLines[o]
      expiry := insertEntry s.clock ⟨s.clock + BitVec.ofNat 32 x.quietPeriod, .quiet ch⟩ q } 0 .fault
    ((∃ o, (s.output o).state = .cut ∧ (lifted o).state = .off) → exec (.recoverDue ch) s = .next t.review) ∧
    ((∀ o, (s.output o).state = .cut → (lifted o).state = .cut) → exec (.recoverDue ch) s = .next t)

/-- RELEASE_FAULT: BAD_PARAMETER above 03h; WRONG_STATE outside LATCHED; FAULT_ACTIVE while the filtered level is active; else
the channel goes to IDLE with trip count 0, its cut is lifted from the outputs of its cut set, and one review follows when
an output left CUT; no entry and no notice is made (R36, R132). -/
def Obligations.ReleaseFaultFreesALatchedChannel : Prop :=
  ∀ (s : State) (f : Frame) (b : Byte), s.InSequence f 0x38 0 → f.params = [b] →
    (4 ≤ b.toNat → s.Completes (.releaseFault f) f 0 0x38 s.linkDone .badParameter []) ∧
    ∀ ch : FaultId, b = byte ch →
      let x := s.fault ch
      (x.state ≠ .latched → s.Completes (.releaseFault f) f 0 0x38 s.linkDone .wrongState []) ∧
      (x.state = .latched → x.filtered = true → s.Completes (.releaseFault f) f 0 0x38 s.linkDone .faultActive []) ∧
      (x.state = .latched → x.filtered = false →
        let lifted (o : OutputId) : Output :=
          if x.cutSet.getLsbD o then
            { s.output o with
              cutBy := (s.output o).cutBy &&& ~~~(BitVec.twoPow 4 ch)
              state := if (s.output o).state = .cut ∧ (s.output o).cutBy &&& ~~~(BitVec.twoPow 4 ch) = 0 then .off
                else (s.output o).state }
          else s.output o
        let t := { s.linkDone with
          faults := s.faults.set ch { x with state := .idle, tripCount := 0 }
          outputs := Vector.ofFn lifted
          gLines := Vector.ofFn fun o : OutputId => if x.cutSet.getLsbD o then (lifted o).line else s.gLines[o] }
        ((∃ o, (s.output o).state = .cut ∧ (lifted o).state = .off) →
          s.Completes (.releaseFault f) f 0 0x38 t.review .ok []) ∧
        ((∀ o, (s.output o).state = .cut → (lifted o).state = .cut) →
          s.Completes (.releaseFault f) f 0 0x38 t .ok []))

/-- SET_FAULT: WRONG_MODE in RUN; in SETUP BAD_PARAMETER when a parameter is out of its range, else the settings are written
and the channel restarts: its RECOVER and QUIET entries go, it leaves every cut-by set that holds it, and it is IDLE with
trip count 0, level inactive and run 0 (R134, R135). With the queue empty, as SETUP has it, its review does nothing. -/
def Obligations.SetFaultRestartsTheChannel : Prop :=
  ∀ (s : State) (f : Frame) (b en al n cut r0 r1 lim q0 q1 q2 : Byte),
    s.InSequence f 0x34 0 → f.params = [b, en, al, n, cut, r0, r1, lim, q0, q1, q2] →
    let delay := r0.toNat + 256 * r1.toNat
    let quiet := q0.toNat + 256 * q1.toNat + 65536 * q2.toNat
    (s.mode = .run → s.Completes (.setFault f) f 0 0x34 s.linkDone .wrongMode []) ∧
    (s.mode = .setup →
      (4 ≤ b.toNat ∨ 2 ≤ en.toNat ∨ 2 ≤ al.toNat ∨ n.toNat < 2 ∨ 16 < n.toNat ∨ delay = 0 ∨ 60000 < delay ∨
          lim.toNat = 0 ∨ 15 < lim.toNat ∨ quiet = 0 ∨ 600000 < quiet →
        s.Completes (.setFault f) f 0 0x34 s.linkDone .badParameter []) ∧
      ∀ (ch : FaultId) (on low : Bool), s.waitQueue = [] → b = byte ch →
        en = (if on then 0x01 else 0x00) → al = (if low then 0x01 else 0x00) → 2 ≤ n.toNat → n.toNat ≤ 16 →
        1 ≤ delay → delay ≤ 60000 → 1 ≤ lim.toNat → lim.toNat ≤ 15 → 1 ≤ quiet → quiet ≤ 600000 →
        let lifted (o : OutputId) : Output :=
          if (s.output o).cutBy.getLsbD ch then
            { s.output o with
              cutBy := (s.output o).cutBy &&& ~~~(BitVec.twoPow 4 ch)
              state := if (s.output o).state = .cut ∧ (s.output o).cutBy &&& ~~~(BitVec.twoPow 4 ch) = 0 then .off
                else (s.output o).state }
          else s.output o
        s.Completes (.setFault f) f 0 0x34
          { s.linkDone with
            faults := s.faults.set ch ⟨on, !low, n.toNat, cut, delay, lim.toNat, quiet, .idle, 0, false, 0, false⟩
            outputs := Vector.ofFn lifted
            gLines := Vector.ofFn fun o : OutputId =>
              if (s.output o).cutBy.getLsbD ch then (lifted o).line else s.gLines[o]
            expiry := s.expiry.filter fun e => e.key ≠ .recover ch ∧ e.key ≠ .quiet ch } .ok [])

/-! ### Modes -/

/-- START: WRONG_MODE in RUN; in SETUP the mode becomes RUN and every OPEN session but the supervisor's has MODE pending, with
ATN up to date; nothing else changes (R157). -/
def Obligations.StartEntersRun : Prop :=
  ∀ (s : State) (f : Frame), s.InSequence f 0x30 0 → f.params = [] →
    (s.mode = .run → s.Completes (.start f) f 0 0x30 s.linkDone .wrongMode []) ∧
    (s.mode = .setup → s.atnLow = s.attention →
      s.Completes (.start f) f 0 0x30
        (State.updateAtn { s.linkDone with
          mode := .run
          sessions := Vector.ofFn fun c : Client =>
            if c ≠ 0 ∧ s.isOpen c = true then
              { s.session c with notices := (s.session c).notices ||| Notice.bit .mode }
            else s.session c }) .ok [])

/-- HALT: WRONG_MODE in SETUP; in RUN every waiting request, from head to tail, and then every live lease, in ascending slot
order, ends HALTED by the end of a lease (EndingALease says all it does), the mode is SETUP, and every OPEN session but the
supervisor's has MODE pending; no review follows. So the wait queue is empty, the outputs that were ON fall to OFF or to
SETTLE with a SETTLE entry at now plus gap and their lines at the inactive level, the OPEN sessions that held a request or
lease have ENDED pending, and each giver's outcome is VOIDED for its highest-numbered offered lease, with OFFER_OUT while it
is OPEN; the answer counts the requests and the leases ended (R33, R38, R114, R116, R159, R160). -/
def Obligations.HaltEndsEverything : Prop :=
  ∀ (s : State) (f : Frame), s.InSequence f 0x31 0 → f.params = [] →
    (s.mode = .setup → s.Completes (.halt f) f 0 0x31 s.linkDone .wrongMode []) ∧
    (s.mode = .run → s.QueueLaw → s.OutputLaw →
      ∃ t, s.Completes (.halt f) f 0 0x31 t .ok
          [byte ((List.finRange 32).countP s.waitingAt), byte ((List.finRange 32).countP s.liveAt)] ∧
        (let e : State :=
           (s.waitQueue ++ (List.finRange 32).filter s.liveAt).foldl (fun u i => u.endLease i .halted none) s.linkDone
         s.atnLow = s.attention →
         t = State.updateAtn { e with
           mode := .setup
           sessions := Vector.ofFn fun c : Client =>
             if c ≠ 0 ∧ s.isOpen c = true then
               { e.session c with notices := (e.session c).notices ||| Notice.bit .mode }
             else e.session c }) ∧
        t.mode = .setup ∧ t.waitQueue = [] ∧ OutputsFollow s t (BitVec.allOnes 8) ∧
        (∀ i l, s.leaseAt i = some l → s.waitingAt i = true ∨ s.liveAt i = true →
          t.slot i = ⟨(s.slot i).generation,
            some { l with phase := .ended l.phase.grantedAt .halted s.clock none }⟩) ∧
        (∀ i, s.waitingAt i = false → s.liveAt i = false → t.slot i = s.slot i) ∧
        (∀ o, t.output o = { s.output o with state := (s.output o).follow false }) ∧
        (∀ e, e.key.isSettle = false → (e ∈ t.expiry ↔ e ∈ s.expiry ∧
          ∀ i, s.waitingAt i = true ∨ s.liveAt i = true → e.key.ofSlot i = false)) ∧
        (∀ c, s.isOpen c = true → c ≠ 0 → (t.session c).notices &&& Notice.bit .mode ≠ 0) ∧
        (∀ i c, s.isOpen c = true → s.activeOf c i = true → (t.session c).notices &&& Notice.bit .ended ≠ 0) ∧
        (∀ g i, s.heldBy g i = true → s.offeredAt i = true →
          (∀ j, i < j → s.heldBy g j = true → s.offeredAt j = false) →
          (t.session g).outcome = some (s.handleOf i, .voided) ∧
          (s.isOpen g = true → (t.session g).notices &&& Notice.bit .offerOut ≠ 0)) ∧
        (∀ g, (∀ i, s.heldBy g i = true → s.offeredAt i = false) → (t.session g).outcome = (s.session g).outcome) ∧
        t.clock = s.clock ∧ t.counts = s.counts ∧ t.faults = s.faults ∧ t.link = s.linkDone.link ∧
        ∀ c, (t.session c).opened = (s.session c).opened ∧ (t.session c).epoch = (s.session c).epoch ∧
          (t.session c).quota = (s.session c).quota ∧ (t.session c).mask = (s.session c).mask)

/-! ### Laws of the whole part -/

/-- Every step keeps the laws that keep partners apart: the relation is symmetric and irreflexive (R39); an output is ON
exactly when a live lease names it and in CUT exactly when a channel cuts it (R31, R35); the wait queue holds the WAITING
slots, each once, at most 12, and SETUP has neither waiting nor live leases (R56, R155); no lease names two partners; a SOLE
lease's outputs have no other holder (R30); and no output is ON while a partner is ON or in SETTLE (R39). -/
def Obligations.StepKeepsPartnersApart : Prop :=
  ∀ s t : State, s.SafetyLaw → step s = .next t → t.SafetyLaw

/-- Every step keeps the expiry queue true to the state: exactly one entry for each live, offered or waiting slot, output in
SETTLE, RECOVERING channel and IDLE channel with a trip count, at the recorded deadline, in the order of ticks remaining
(R74, R75), together with the channels' and records' laws it rests on. -/
def Obligations.StepKeepsTheDeadlines : Prop :=
  ∀ s t : State, s.DeadlineLaw → step s = .next t → t.DeadlineLaw

/-- Every step keeps what a CLOSED session holds, nothing, and that no offer is made to a CLOSED session or to its own giver
(R5, R141). -/
def Obligations.StepKeepsClosedSessionsEmpty : Prop :=
  ∀ s t : State, s.SessionLaw → step s = .next t → t.SessionLaw

/-- Every step keeps that no client occupies more slots than its quota (R50, R110). -/
def Obligations.StepKeepsTheQuotas : Prop :=
  ∀ s t : State, s.QuotaLaw → step s = .next t → t.QuotaLaw

/-- Every step keeps the G lines at the levels their outputs call for, low outside running, and ATN low exactly while an OPEN
session has a pending kind in its mask (R38, R152). -/
def Obligations.StepKeepsThePins : Prop :=
  ∀ s t : State, s.PinLaw → step s = .next t → t.PinLaw

end
end

