-- ==== Sys2Proof/Laws/State.lean ====
section
/-! SUPPORT. What each primitive update of the state leaves alone (one lemma per update and field, by rfl), and what a
record reads as after it was written. -/

namespace Sys2Proof.Machine

variable (s : State)

/-! ### putSlot -/

@[simp] theorem State.putSlot_power (i : SlotId) (x : Slot) : (s.putSlot i x).power = s.power := rfl
@[simp] theorem State.putSlot_pins (i : SlotId) (x : Slot) : (s.putSlot i x).pins = s.pins := rfl
@[simp] theorem State.putSlot_mode (i : SlotId) (x : Slot) : (s.putSlot i x).mode = s.mode := rfl
@[simp] theorem State.putSlot_clock (i : SlotId) (x : Slot) : (s.putSlot i x).clock = s.clock := rfl
@[simp] theorem State.putSlot_outputs (i : SlotId) (x : Slot) : (s.putSlot i x).outputs = s.outputs := rfl
@[simp] theorem State.putSlot_waitQueue (i : SlotId) (x : Slot) : (s.putSlot i x).waitQueue = s.waitQueue := rfl
@[simp] theorem State.putSlot_expiry (i : SlotId) (x : Slot) : (s.putSlot i x).expiry = s.expiry := rfl
@[simp] theorem State.putSlot_counts (i : SlotId) (x : Slot) : (s.putSlot i x).counts = s.counts := rfl
@[simp] theorem State.putSlot_faults (i : SlotId) (x : Slot) : (s.putSlot i x).faults = s.faults := rfl
@[simp] theorem State.putSlot_sessions (i : SlotId) (x : Slot) : (s.putSlot i x).sessions = s.sessions := rfl
@[simp] theorem State.putSlot_link (i : SlotId) (x : Slot) : (s.putSlot i x).link = s.link := rfl
@[simp] theorem State.putSlot_gLines (i : SlotId) (x : Slot) : (s.putSlot i x).gLines = s.gLines := rfl
@[simp] theorem State.putSlot_atnLow (i : SlotId) (x : Slot) : (s.putSlot i x).atnLow = s.atnLow := rfl
@[simp] theorem State.putSlot_pending (i : SlotId) (x : Slot) : (s.putSlot i x).pending = s.pending := rfl

/-! ### putLease -/

@[simp] theorem State.putLease_power (i : SlotId) (l : Option Lease) : (s.putLease i l).power = s.power := rfl
@[simp] theorem State.putLease_pins (i : SlotId) (l : Option Lease) : (s.putLease i l).pins = s.pins := rfl
@[simp] theorem State.putLease_mode (i : SlotId) (l : Option Lease) : (s.putLease i l).mode = s.mode := rfl
@[simp] theorem State.putLease_clock (i : SlotId) (l : Option Lease) : (s.putLease i l).clock = s.clock := rfl
@[simp] theorem State.putLease_outputs (i : SlotId) (l : Option Lease) : (s.putLease i l).outputs = s.outputs := rfl
@[simp] theorem State.putLease_waitQueue (i : SlotId) (l : Option Lease) : (s.putLease i l).waitQueue = s.waitQueue := rfl
@[simp] theorem State.putLease_expiry (i : SlotId) (l : Option Lease) : (s.putLease i l).expiry = s.expiry := rfl
@[simp] theorem State.putLease_counts (i : SlotId) (l : Option Lease) : (s.putLease i l).counts = s.counts := rfl
@[simp] theorem State.putLease_faults (i : SlotId) (l : Option Lease) : (s.putLease i l).faults = s.faults := rfl
@[simp] theorem State.putLease_sessions (i : SlotId) (l : Option Lease) : (s.putLease i l).sessions = s.sessions := rfl
@[simp] theorem State.putLease_link (i : SlotId) (l : Option Lease) : (s.putLease i l).link = s.link := rfl
@[simp] theorem State.putLease_gLines (i : SlotId) (l : Option Lease) : (s.putLease i l).gLines = s.gLines := rfl
@[simp] theorem State.putLease_atnLow (i : SlotId) (l : Option Lease) : (s.putLease i l).atnLow = s.atnLow := rfl
@[simp] theorem State.putLease_pending (i : SlotId) (l : Option Lease) : (s.putLease i l).pending = s.pending := rfl

/-! ### putOutput -/

@[simp] theorem State.putOutput_power (o : OutputId) (x : Output) : (s.putOutput o x).power = s.power := rfl
@[simp] theorem State.putOutput_pins (o : OutputId) (x : Output) : (s.putOutput o x).pins = s.pins := rfl
@[simp] theorem State.putOutput_mode (o : OutputId) (x : Output) : (s.putOutput o x).mode = s.mode := rfl
@[simp] theorem State.putOutput_clock (o : OutputId) (x : Output) : (s.putOutput o x).clock = s.clock := rfl
@[simp] theorem State.putOutput_slots (o : OutputId) (x : Output) : (s.putOutput o x).slots = s.slots := rfl
@[simp] theorem State.putOutput_waitQueue (o : OutputId) (x : Output) : (s.putOutput o x).waitQueue = s.waitQueue := rfl
@[simp] theorem State.putOutput_expiry (o : OutputId) (x : Output) : (s.putOutput o x).expiry = s.expiry := rfl
@[simp] theorem State.putOutput_counts (o : OutputId) (x : Output) : (s.putOutput o x).counts = s.counts := rfl
@[simp] theorem State.putOutput_faults (o : OutputId) (x : Output) : (s.putOutput o x).faults = s.faults := rfl
@[simp] theorem State.putOutput_sessions (o : OutputId) (x : Output) : (s.putOutput o x).sessions = s.sessions := rfl
@[simp] theorem State.putOutput_link (o : OutputId) (x : Output) : (s.putOutput o x).link = s.link := rfl
@[simp] theorem State.putOutput_atnLow (o : OutputId) (x : Output) : (s.putOutput o x).atnLow = s.atnLow := rfl
@[simp] theorem State.putOutput_pending (o : OutputId) (x : Output) : (s.putOutput o x).pending = s.pending := rfl

/-! ### putPartners -/

@[simp] theorem State.putPartners_power (o : OutputId) (P : OutputSet) : (s.putPartners o P).power = s.power := rfl
@[simp] theorem State.putPartners_pins (o : OutputId) (P : OutputSet) : (s.putPartners o P).pins = s.pins := rfl
@[simp] theorem State.putPartners_mode (o : OutputId) (P : OutputSet) : (s.putPartners o P).mode = s.mode := rfl
@[simp] theorem State.putPartners_clock (o : OutputId) (P : OutputSet) : (s.putPartners o P).clock = s.clock := rfl
@[simp] theorem State.putPartners_slots (o : OutputId) (P : OutputSet) : (s.putPartners o P).slots = s.slots := rfl
@[simp] theorem State.putPartners_waitQueue (o : OutputId) (P : OutputSet) : (s.putPartners o P).waitQueue = s.waitQueue := rfl
@[simp] theorem State.putPartners_expiry (o : OutputId) (P : OutputSet) : (s.putPartners o P).expiry = s.expiry := rfl
@[simp] theorem State.putPartners_counts (o : OutputId) (P : OutputSet) : (s.putPartners o P).counts = s.counts := rfl
@[simp] theorem State.putPartners_faults (o : OutputId) (P : OutputSet) : (s.putPartners o P).faults = s.faults := rfl
@[simp] theorem State.putPartners_sessions (o : OutputId) (P : OutputSet) : (s.putPartners o P).sessions = s.sessions := rfl
@[simp] theorem State.putPartners_link (o : OutputId) (P : OutputSet) : (s.putPartners o P).link = s.link := rfl
@[simp] theorem State.putPartners_gLines (o : OutputId) (P : OutputSet) : (s.putPartners o P).gLines = s.gLines := rfl
@[simp] theorem State.putPartners_atnLow (o : OutputId) (P : OutputSet) : (s.putPartners o P).atnLow = s.atnLow := rfl
@[simp] theorem State.putPartners_pending (o : OutputId) (P : OutputSet) : (s.putPartners o P).pending = s.pending := rfl

/-! ### putCount -/

@[simp] theorem State.putCount_power (ch : CountId) (x : CountChannel) : (s.putCount ch x).power = s.power := rfl
@[simp] theorem State.putCount_pins (ch : CountId) (x : CountChannel) : (s.putCount ch x).pins = s.pins := rfl
@[simp] theorem State.putCount_mode (ch : CountId) (x : CountChannel) : (s.putCount ch x).mode = s.mode := rfl
@[simp] theorem State.putCount_clock (ch : CountId) (x : CountChannel) : (s.putCount ch x).clock = s.clock := rfl
@[simp] theorem State.putCount_slots (ch : CountId) (x : CountChannel) : (s.putCount ch x).slots = s.slots := rfl
@[simp] theorem State.putCount_outputs (ch : CountId) (x : CountChannel) : (s.putCount ch x).outputs = s.outputs := rfl
@[simp] theorem State.putCount_waitQueue (ch : CountId) (x : CountChannel) : (s.putCount ch x).waitQueue = s.waitQueue := rfl
@[simp] theorem State.putCount_expiry (ch : CountId) (x : CountChannel) : (s.putCount ch x).expiry = s.expiry := rfl
@[simp] theorem State.putCount_faults (ch : CountId) (x : CountChannel) : (s.putCount ch x).faults = s.faults := rfl
@[simp] theorem State.putCount_sessions (ch : CountId) (x : CountChannel) : (s.putCount ch x).sessions = s.sessions := rfl
@[simp] theorem State.putCount_link (ch : CountId) (x : CountChannel) : (s.putCount ch x).link = s.link := rfl
@[simp] theorem State.putCount_gLines (ch : CountId) (x : CountChannel) : (s.putCount ch x).gLines = s.gLines := rfl
@[simp] theorem State.putCount_atnLow (ch : CountId) (x : CountChannel) : (s.putCount ch x).atnLow = s.atnLow := rfl
@[simp] theorem State.putCount_pending (ch : CountId) (x : CountChannel) : (s.putCount ch x).pending = s.pending := rfl

/-! ### putFault -/

@[simp] theorem State.putFault_power (ch : FaultId) (x : FaultChannel) : (s.putFault ch x).power = s.power := rfl
@[simp] theorem State.putFault_pins (ch : FaultId) (x : FaultChannel) : (s.putFault ch x).pins = s.pins := rfl
@[simp] theorem State.putFault_mode (ch : FaultId) (x : FaultChannel) : (s.putFault ch x).mode = s.mode := rfl
@[simp] theorem State.putFault_clock (ch : FaultId) (x : FaultChannel) : (s.putFault ch x).clock = s.clock := rfl
@[simp] theorem State.putFault_slots (ch : FaultId) (x : FaultChannel) : (s.putFault ch x).slots = s.slots := rfl
@[simp] theorem State.putFault_outputs (ch : FaultId) (x : FaultChannel) : (s.putFault ch x).outputs = s.outputs := rfl
@[simp] theorem State.putFault_waitQueue (ch : FaultId) (x : FaultChannel) : (s.putFault ch x).waitQueue = s.waitQueue := rfl
@[simp] theorem State.putFault_expiry (ch : FaultId) (x : FaultChannel) : (s.putFault ch x).expiry = s.expiry := rfl
@[simp] theorem State.putFault_counts (ch : FaultId) (x : FaultChannel) : (s.putFault ch x).counts = s.counts := rfl
@[simp] theorem State.putFault_sessions (ch : FaultId) (x : FaultChannel) : (s.putFault ch x).sessions = s.sessions := rfl
@[simp] theorem State.putFault_link (ch : FaultId) (x : FaultChannel) : (s.putFault ch x).link = s.link := rfl
@[simp] theorem State.putFault_gLines (ch : FaultId) (x : FaultChannel) : (s.putFault ch x).gLines = s.gLines := rfl
@[simp] theorem State.putFault_atnLow (ch : FaultId) (x : FaultChannel) : (s.putFault ch x).atnLow = s.atnLow := rfl
@[simp] theorem State.putFault_pending (ch : FaultId) (x : FaultChannel) : (s.putFault ch x).pending = s.pending := rfl

/-! ### putSession -/

@[simp] theorem State.putSession_power (c : Client) (x : Session) : (s.putSession c x).power = s.power := rfl
@[simp] theorem State.putSession_pins (c : Client) (x : Session) : (s.putSession c x).pins = s.pins := rfl
@[simp] theorem State.putSession_mode (c : Client) (x : Session) : (s.putSession c x).mode = s.mode := rfl
@[simp] theorem State.putSession_clock (c : Client) (x : Session) : (s.putSession c x).clock = s.clock := rfl
@[simp] theorem State.putSession_slots (c : Client) (x : Session) : (s.putSession c x).slots = s.slots := rfl
@[simp] theorem State.putSession_outputs (c : Client) (x : Session) : (s.putSession c x).outputs = s.outputs := rfl
@[simp] theorem State.putSession_waitQueue (c : Client) (x : Session) : (s.putSession c x).waitQueue = s.waitQueue := rfl
@[simp] theorem State.putSession_expiry (c : Client) (x : Session) : (s.putSession c x).expiry = s.expiry := rfl
@[simp] theorem State.putSession_counts (c : Client) (x : Session) : (s.putSession c x).counts = s.counts := rfl
@[simp] theorem State.putSession_faults (c : Client) (x : Session) : (s.putSession c x).faults = s.faults := rfl
@[simp] theorem State.putSession_link (c : Client) (x : Session) : (s.putSession c x).link = s.link := rfl
@[simp] theorem State.putSession_gLines (c : Client) (x : Session) : (s.putSession c x).gLines = s.gLines := rfl
@[simp] theorem State.putSession_atnLow (c : Client) (x : Session) : (s.putSession c x).atnLow = s.atnLow := rfl
@[simp] theorem State.putSession_pending (c : Client) (x : Session) : (s.putSession c x).pending = s.pending := rfl

/-! ### schedule -/

@[simp] theorem State.schedule_power (k : Key) (n : Nat) : (s.schedule k n).power = s.power := rfl
@[simp] theorem State.schedule_pins (k : Key) (n : Nat) : (s.schedule k n).pins = s.pins := rfl
@[simp] theorem State.schedule_mode (k : Key) (n : Nat) : (s.schedule k n).mode = s.mode := rfl
@[simp] theorem State.schedule_clock (k : Key) (n : Nat) : (s.schedule k n).clock = s.clock := rfl
@[simp] theorem State.schedule_slots (k : Key) (n : Nat) : (s.schedule k n).slots = s.slots := rfl
@[simp] theorem State.schedule_outputs (k : Key) (n : Nat) : (s.schedule k n).outputs = s.outputs := rfl
@[simp] theorem State.schedule_waitQueue (k : Key) (n : Nat) : (s.schedule k n).waitQueue = s.waitQueue := rfl
@[simp] theorem State.schedule_counts (k : Key) (n : Nat) : (s.schedule k n).counts = s.counts := rfl
@[simp] theorem State.schedule_faults (k : Key) (n : Nat) : (s.schedule k n).faults = s.faults := rfl
@[simp] theorem State.schedule_sessions (k : Key) (n : Nat) : (s.schedule k n).sessions = s.sessions := rfl
@[simp] theorem State.schedule_link (k : Key) (n : Nat) : (s.schedule k n).link = s.link := rfl
@[simp] theorem State.schedule_gLines (k : Key) (n : Nat) : (s.schedule k n).gLines = s.gLines := rfl
@[simp] theorem State.schedule_atnLow (k : Key) (n : Nat) : (s.schedule k n).atnLow = s.atnLow := rfl
@[simp] theorem State.schedule_pending (k : Key) (n : Nat) : (s.schedule k n).pending = s.pending := rfl

/-! ### unschedule -/

@[simp] theorem State.unschedule_power (k : Key) : (s.unschedule k).power = s.power := rfl
@[simp] theorem State.unschedule_pins (k : Key) : (s.unschedule k).pins = s.pins := rfl
@[simp] theorem State.unschedule_mode (k : Key) : (s.unschedule k).mode = s.mode := rfl
@[simp] theorem State.unschedule_clock (k : Key) : (s.unschedule k).clock = s.clock := rfl
@[simp] theorem State.unschedule_slots (k : Key) : (s.unschedule k).slots = s.slots := rfl
@[simp] theorem State.unschedule_outputs (k : Key) : (s.unschedule k).outputs = s.outputs := rfl
@[simp] theorem State.unschedule_waitQueue (k : Key) : (s.unschedule k).waitQueue = s.waitQueue := rfl
@[simp] theorem State.unschedule_counts (k : Key) : (s.unschedule k).counts = s.counts := rfl
@[simp] theorem State.unschedule_faults (k : Key) : (s.unschedule k).faults = s.faults := rfl
@[simp] theorem State.unschedule_sessions (k : Key) : (s.unschedule k).sessions = s.sessions := rfl
@[simp] theorem State.unschedule_link (k : Key) : (s.unschedule k).link = s.link := rfl
@[simp] theorem State.unschedule_gLines (k : Key) : (s.unschedule k).gLines = s.gLines := rfl
@[simp] theorem State.unschedule_atnLow (k : Key) : (s.unschedule k).atnLow = s.atnLow := rfl
@[simp] theorem State.unschedule_pending (k : Key) : (s.unschedule k).pending = s.pending := rfl

/-! ### updateAtn -/

@[simp] theorem State.updateAtn_power : s.updateAtn.power = s.power := rfl
@[simp] theorem State.updateAtn_pins : s.updateAtn.pins = s.pins := rfl
@[simp] theorem State.updateAtn_mode : s.updateAtn.mode = s.mode := rfl
@[simp] theorem State.updateAtn_clock : s.updateAtn.clock = s.clock := rfl
@[simp] theorem State.updateAtn_slots : s.updateAtn.slots = s.slots := rfl
@[simp] theorem State.updateAtn_outputs : s.updateAtn.outputs = s.outputs := rfl
@[simp] theorem State.updateAtn_waitQueue : s.updateAtn.waitQueue = s.waitQueue := rfl
@[simp] theorem State.updateAtn_expiry : s.updateAtn.expiry = s.expiry := rfl
@[simp] theorem State.updateAtn_counts : s.updateAtn.counts = s.counts := rfl
@[simp] theorem State.updateAtn_faults : s.updateAtn.faults = s.faults := rfl
@[simp] theorem State.updateAtn_sessions : s.updateAtn.sessions = s.sessions := rfl
@[simp] theorem State.updateAtn_link : s.updateAtn.link = s.link := rfl
@[simp] theorem State.updateAtn_gLines : s.updateAtn.gLines = s.gLines := rfl
@[simp] theorem State.updateAtn_pending : s.updateAtn.pending = s.pending := rfl

/-! ### setOutcome -/

@[simp] theorem State.setOutcome_power (c : Client) (h : Handle) (x : Outcome) : (s.setOutcome c h x).power = s.power := rfl
@[simp] theorem State.setOutcome_pins (c : Client) (h : Handle) (x : Outcome) : (s.setOutcome c h x).pins = s.pins := rfl
@[simp] theorem State.setOutcome_mode (c : Client) (h : Handle) (x : Outcome) : (s.setOutcome c h x).mode = s.mode := rfl
@[simp] theorem State.setOutcome_clock (c : Client) (h : Handle) (x : Outcome) : (s.setOutcome c h x).clock = s.clock := rfl
@[simp] theorem State.setOutcome_slots (c : Client) (h : Handle) (x : Outcome) : (s.setOutcome c h x).slots = s.slots := rfl
@[simp] theorem State.setOutcome_outputs (c : Client) (h : Handle) (x : Outcome) : (s.setOutcome c h x).outputs = s.outputs := rfl
@[simp] theorem State.setOutcome_waitQueue (c : Client) (h : Handle) (x : Outcome) : (s.setOutcome c h x).waitQueue = s.waitQueue := rfl
@[simp] theorem State.setOutcome_expiry (c : Client) (h : Handle) (x : Outcome) : (s.setOutcome c h x).expiry = s.expiry := rfl
@[simp] theorem State.setOutcome_counts (c : Client) (h : Handle) (x : Outcome) : (s.setOutcome c h x).counts = s.counts := rfl
@[simp] theorem State.setOutcome_faults (c : Client) (h : Handle) (x : Outcome) : (s.setOutcome c h x).faults = s.faults := rfl
@[simp] theorem State.setOutcome_link (c : Client) (h : Handle) (x : Outcome) : (s.setOutcome c h x).link = s.link := rfl
@[simp] theorem State.setOutcome_gLines (c : Client) (h : Handle) (x : Outcome) : (s.setOutcome c h x).gLines = s.gLines := rfl
@[simp] theorem State.setOutcome_atnLow (c : Client) (h : Handle) (x : Outcome) : (s.setOutcome c h x).atnLow = s.atnLow := rfl
@[simp] theorem State.setOutcome_pending (c : Client) (h : Handle) (x : Outcome) : (s.setOutcome c h x).pending = s.pending := rfl

/-! ### linkDone -/

@[simp] theorem State.linkDone_power : s.linkDone.power = s.power := rfl
@[simp] theorem State.linkDone_pins : s.linkDone.pins = s.pins := rfl
@[simp] theorem State.linkDone_mode : s.linkDone.mode = s.mode := rfl
@[simp] theorem State.linkDone_clock : s.linkDone.clock = s.clock := rfl
@[simp] theorem State.linkDone_slots : s.linkDone.slots = s.slots := rfl
@[simp] theorem State.linkDone_outputs : s.linkDone.outputs = s.outputs := rfl
@[simp] theorem State.linkDone_waitQueue : s.linkDone.waitQueue = s.waitQueue := rfl
@[simp] theorem State.linkDone_expiry : s.linkDone.expiry = s.expiry := rfl
@[simp] theorem State.linkDone_counts : s.linkDone.counts = s.counts := rfl
@[simp] theorem State.linkDone_faults : s.linkDone.faults = s.faults := rfl
@[simp] theorem State.linkDone_sessions : s.linkDone.sessions = s.sessions := rfl
@[simp] theorem State.linkDone_gLines : s.linkDone.gLines = s.gLines := rfl
@[simp] theorem State.linkDone_atnLow : s.linkDone.atnLow = s.atnLow := rfl
@[simp] theorem State.linkDone_pending : s.linkDone.pending = s.pending := rfl

/-! ### writeSlot -/

@[simp] theorem State.writeSlot_power (c : Client) (x : Response) : (s.writeSlot c x).power = s.power := rfl
@[simp] theorem State.writeSlot_pins (c : Client) (x : Response) : (s.writeSlot c x).pins = s.pins := rfl
@[simp] theorem State.writeSlot_mode (c : Client) (x : Response) : (s.writeSlot c x).mode = s.mode := rfl
@[simp] theorem State.writeSlot_clock (c : Client) (x : Response) : (s.writeSlot c x).clock = s.clock := rfl
@[simp] theorem State.writeSlot_slots (c : Client) (x : Response) : (s.writeSlot c x).slots = s.slots := rfl
@[simp] theorem State.writeSlot_outputs (c : Client) (x : Response) : (s.writeSlot c x).outputs = s.outputs := rfl
@[simp] theorem State.writeSlot_waitQueue (c : Client) (x : Response) : (s.writeSlot c x).waitQueue = s.waitQueue := rfl
@[simp] theorem State.writeSlot_expiry (c : Client) (x : Response) : (s.writeSlot c x).expiry = s.expiry := rfl
@[simp] theorem State.writeSlot_counts (c : Client) (x : Response) : (s.writeSlot c x).counts = s.counts := rfl
@[simp] theorem State.writeSlot_faults (c : Client) (x : Response) : (s.writeSlot c x).faults = s.faults := rfl
@[simp] theorem State.writeSlot_link (c : Client) (x : Response) : (s.writeSlot c x).link = s.link := rfl
@[simp] theorem State.writeSlot_gLines (c : Client) (x : Response) : (s.writeSlot c x).gLines = s.gLines := rfl
@[simp] theorem State.writeSlot_atnLow (c : Client) (x : Response) : (s.writeSlot c x).atnLow = s.atnLow := rfl
@[simp] theorem State.writeSlot_pending (c : Client) (x : Response) : (s.writeSlot c x).pending = s.pending := rfl

/-! ### answerSlot -/

@[simp] theorem State.answerSlot_power (r : Received) (a : Reply) : (s.answerSlot r a).power = s.power := rfl
@[simp] theorem State.answerSlot_pins (r : Received) (a : Reply) : (s.answerSlot r a).pins = s.pins := rfl
@[simp] theorem State.answerSlot_mode (r : Received) (a : Reply) : (s.answerSlot r a).mode = s.mode := rfl
@[simp] theorem State.answerSlot_clock (r : Received) (a : Reply) : (s.answerSlot r a).clock = s.clock := rfl
@[simp] theorem State.answerSlot_slots (r : Received) (a : Reply) : (s.answerSlot r a).slots = s.slots := rfl
@[simp] theorem State.answerSlot_outputs (r : Received) (a : Reply) : (s.answerSlot r a).outputs = s.outputs := rfl
@[simp] theorem State.answerSlot_waitQueue (r : Received) (a : Reply) : (s.answerSlot r a).waitQueue = s.waitQueue := rfl
@[simp] theorem State.answerSlot_expiry (r : Received) (a : Reply) : (s.answerSlot r a).expiry = s.expiry := rfl
@[simp] theorem State.answerSlot_counts (r : Received) (a : Reply) : (s.answerSlot r a).counts = s.counts := rfl
@[simp] theorem State.answerSlot_faults (r : Received) (a : Reply) : (s.answerSlot r a).faults = s.faults := rfl
@[simp] theorem State.answerSlot_link (r : Received) (a : Reply) : (s.answerSlot r a).link = s.link := rfl
@[simp] theorem State.answerSlot_gLines (r : Received) (a : Reply) : (s.answerSlot r a).gLines = s.gLines := rfl
@[simp] theorem State.answerSlot_atnLow (r : Received) (a : Reply) : (s.answerSlot r a).atnLow = s.atnLow := rfl
@[simp] theorem State.answerSlot_pending (r : Received) (a : Reply) : (s.answerSlot r a).pending = s.pending := rfl

/-! ### conclude -/

@[simp] theorem State.conclude_power (r : Received) (a : Reply) : (s.conclude r a).power = s.power := rfl
@[simp] theorem State.conclude_pins (r : Received) (a : Reply) : (s.conclude r a).pins = s.pins := rfl
@[simp] theorem State.conclude_mode (r : Received) (a : Reply) : (s.conclude r a).mode = s.mode := rfl
@[simp] theorem State.conclude_clock (r : Received) (a : Reply) : (s.conclude r a).clock = s.clock := rfl
@[simp] theorem State.conclude_slots (r : Received) (a : Reply) : (s.conclude r a).slots = s.slots := rfl
@[simp] theorem State.conclude_outputs (r : Received) (a : Reply) : (s.conclude r a).outputs = s.outputs := rfl
@[simp] theorem State.conclude_waitQueue (r : Received) (a : Reply) : (s.conclude r a).waitQueue = s.waitQueue := rfl
@[simp] theorem State.conclude_expiry (r : Received) (a : Reply) : (s.conclude r a).expiry = s.expiry := rfl
@[simp] theorem State.conclude_counts (r : Received) (a : Reply) : (s.conclude r a).counts = s.counts := rfl
@[simp] theorem State.conclude_faults (r : Received) (a : Reply) : (s.conclude r a).faults = s.faults := rfl
@[simp] theorem State.conclude_link (r : Received) (a : Reply) : (s.conclude r a).link = s.link := rfl
@[simp] theorem State.conclude_gLines (r : Received) (a : Reply) : (s.conclude r a).gLines = s.gLines := rfl
@[simp] theorem State.conclude_atnLow (r : Received) (a : Reply) : (s.conclude r a).atnLow = s.atnLow := rfl
@[simp] theorem State.conclude_pending (r : Received) (a : Reply) : (s.conclude r a).pending = s.pending := rfl

/-! ### takeSlot -/

@[simp] theorem State.takeSlot_power (i : SlotId) (l : Lease) : (s.takeSlot i l).power = s.power := rfl
@[simp] theorem State.takeSlot_pins (i : SlotId) (l : Lease) : (s.takeSlot i l).pins = s.pins := rfl
@[simp] theorem State.takeSlot_mode (i : SlotId) (l : Lease) : (s.takeSlot i l).mode = s.mode := rfl
@[simp] theorem State.takeSlot_clock (i : SlotId) (l : Lease) : (s.takeSlot i l).clock = s.clock := rfl
@[simp] theorem State.takeSlot_outputs (i : SlotId) (l : Lease) : (s.takeSlot i l).outputs = s.outputs := rfl
@[simp] theorem State.takeSlot_waitQueue (i : SlotId) (l : Lease) : (s.takeSlot i l).waitQueue = s.waitQueue := rfl
@[simp] theorem State.takeSlot_expiry (i : SlotId) (l : Lease) : (s.takeSlot i l).expiry = s.expiry := rfl
@[simp] theorem State.takeSlot_counts (i : SlotId) (l : Lease) : (s.takeSlot i l).counts = s.counts := rfl
@[simp] theorem State.takeSlot_faults (i : SlotId) (l : Lease) : (s.takeSlot i l).faults = s.faults := rfl
@[simp] theorem State.takeSlot_sessions (i : SlotId) (l : Lease) : (s.takeSlot i l).sessions = s.sessions := rfl
@[simp] theorem State.takeSlot_link (i : SlotId) (l : Lease) : (s.takeSlot i l).link = s.link := rfl
@[simp] theorem State.takeSlot_gLines (i : SlotId) (l : Lease) : (s.takeSlot i l).gLines = s.gLines := rfl
@[simp] theorem State.takeSlot_atnLow (i : SlotId) (l : Lease) : (s.takeSlot i l).atnLow = s.atnLow := rfl
@[simp] theorem State.takeSlot_pending (i : SlotId) (l : Lease) : (s.takeSlot i l).pending = s.pending := rfl

/-! ### withSlot -/

@[simp] theorem State.withSlot_power (c : Client) (x : Response) : (s.withSlot c x).power = s.power := rfl
@[simp] theorem State.withSlot_pins (c : Client) (x : Response) : (s.withSlot c x).pins = s.pins := rfl
@[simp] theorem State.withSlot_mode (c : Client) (x : Response) : (s.withSlot c x).mode = s.mode := rfl
@[simp] theorem State.withSlot_clock (c : Client) (x : Response) : (s.withSlot c x).clock = s.clock := rfl
@[simp] theorem State.withSlot_slots (c : Client) (x : Response) : (s.withSlot c x).slots = s.slots := rfl
@[simp] theorem State.withSlot_outputs (c : Client) (x : Response) : (s.withSlot c x).outputs = s.outputs := rfl
@[simp] theorem State.withSlot_waitQueue (c : Client) (x : Response) : (s.withSlot c x).waitQueue = s.waitQueue := rfl
@[simp] theorem State.withSlot_expiry (c : Client) (x : Response) : (s.withSlot c x).expiry = s.expiry := rfl
@[simp] theorem State.withSlot_counts (c : Client) (x : Response) : (s.withSlot c x).counts = s.counts := rfl
@[simp] theorem State.withSlot_faults (c : Client) (x : Response) : (s.withSlot c x).faults = s.faults := rfl
@[simp] theorem State.withSlot_link (c : Client) (x : Response) : (s.withSlot c x).link = s.link := rfl
@[simp] theorem State.withSlot_gLines (c : Client) (x : Response) : (s.withSlot c x).gLines = s.gLines := rfl
@[simp] theorem State.withSlot_atnLow (c : Client) (x : Response) : (s.withSlot c x).atnLow = s.atnLow := rfl
@[simp] theorem State.withSlot_pending (c : Client) (x : Response) : (s.withSlot c x).pending = s.pending := rfl

/-! ### withAnswer -/

@[simp] theorem State.withAnswer_power (c : Client) (x : Response) : (s.withAnswer c x).power = s.power := rfl
@[simp] theorem State.withAnswer_pins (c : Client) (x : Response) : (s.withAnswer c x).pins = s.pins := rfl
@[simp] theorem State.withAnswer_mode (c : Client) (x : Response) : (s.withAnswer c x).mode = s.mode := rfl
@[simp] theorem State.withAnswer_clock (c : Client) (x : Response) : (s.withAnswer c x).clock = s.clock := rfl
@[simp] theorem State.withAnswer_slots (c : Client) (x : Response) : (s.withAnswer c x).slots = s.slots := rfl
@[simp] theorem State.withAnswer_outputs (c : Client) (x : Response) : (s.withAnswer c x).outputs = s.outputs := rfl
@[simp] theorem State.withAnswer_waitQueue (c : Client) (x : Response) : (s.withAnswer c x).waitQueue = s.waitQueue := rfl
@[simp] theorem State.withAnswer_expiry (c : Client) (x : Response) : (s.withAnswer c x).expiry = s.expiry := rfl
@[simp] theorem State.withAnswer_counts (c : Client) (x : Response) : (s.withAnswer c x).counts = s.counts := rfl
@[simp] theorem State.withAnswer_faults (c : Client) (x : Response) : (s.withAnswer c x).faults = s.faults := rfl
@[simp] theorem State.withAnswer_link (c : Client) (x : Response) : (s.withAnswer c x).link = s.link := rfl
@[simp] theorem State.withAnswer_gLines (c : Client) (x : Response) : (s.withAnswer c x).gLines = s.gLines := rfl
@[simp] theorem State.withAnswer_atnLow (c : Client) (x : Response) : (s.withAnswer c x).atnLow = s.atnLow := rfl
@[simp] theorem State.withAnswer_pending (c : Client) (x : Response) : (s.withAnswer c x).pending = s.pending := rfl

/-! ### Reading after writing -/

@[simp] theorem State.slot_putSlot (i j : SlotId) (x : Slot) :
    (s.putSlot i x).slot j = if i = j then x else s.slot j := by
  simp [State.slot, State.putSlot, Vector.getElem_set, Fin.val_inj]

@[simp] theorem State.output_putOutput (i j : OutputId) (x : Output) :
    (s.putOutput i x).output j = if i = j then x else s.output j := by
  simp [State.output, State.putOutput, Vector.getElem_set, Fin.val_inj]

@[simp] theorem State.gLine_putOutput (i j : OutputId) (x : Output) :
    (s.putOutput i x).gLines[j] = if i = j then x.line else s.gLines[j] := by
  simp [State.putOutput, Vector.getElem_set, Fin.val_inj]

@[simp] theorem State.output_putPartners (i j : OutputId) (P : OutputSet) :
    (s.putPartners i P).output j = if i = j then { s.output i with partners := P } else s.output j := by
  simp [State.output, State.putPartners, Vector.getElem_set, Fin.val_inj]

@[simp] theorem State.count_putCount (i j : CountId) (x : CountChannel) :
    (s.putCount i x).count j = if i = j then x else s.count j := by
  simp [State.count, State.putCount, Vector.getElem_set, Fin.val_inj]

@[simp] theorem State.fault_putFault (i j : FaultId) (x : FaultChannel) :
    (s.putFault i x).fault j = if i = j then x else s.fault j := by
  simp [State.fault, State.putFault, Vector.getElem_set, Fin.val_inj]

@[simp] theorem State.session_putSession (i j : Client) (x : Session) :
    (s.putSession i x).session j = if i = j then x else s.session j := by
  simp [State.session, State.putSession, Vector.getElem_set, Fin.val_inj]

@[simp] theorem State.slot_putLease (i j : SlotId) (l : Option Lease) :
    (s.putLease i l).slot j = if i = j then { generation := (s.slot i).generation, lease := l } else s.slot j := by
  simp [State.putLease]

@[simp] theorem State.leaseAt_putLease (i j : SlotId) (l : Option Lease) :
    (s.putLease i l).leaseAt j = if i = j then l else s.leaseAt j := by
  simp only [State.leaseAt, State.slot_putLease]; split <;> rfl

@[simp] theorem State.session_setOutcome (i j : Client) (h : Handle) (x : Outcome) :
    (s.setOutcome i h x).session j = if i = j then { s.session i with outcome := some (h, x) } else s.session j := by
  simp [State.setOutcome]

@[simp] theorem State.session_writeSlot (i j : Client) (x : Response) :
    (s.writeSlot i x).session j = if i = j then { s.session i with response := some x } else s.session j := by
  simp [State.writeSlot]

@[simp] theorem State.atnLow_updateAtn : s.updateAtn.atnLow = s.attention := rfl

end Sys2Proof.Machine
end

