-- ==== Sys2Proof/Laws/Frames.lean ====
section
/-! SUPPORT. What the shared operations leave alone, said once for each: `Spares` is the part of the state that no end of a
lease, no review and no notice touches. -/

namespace Sys2Proof.Machine

/-! ### Readers see only their own field -/

theorem State.leaseAt_congr {s t : State} (h : s.slots = t.slots) (i : SlotId) : s.leaseAt i = t.leaseAt i := by
  simp [State.leaseAt, State.slot, h]

theorem State.slotHolds_congr {s t : State} (h : s.slots = t.slots) (o : OutputId) (i : SlotId) :
    s.slotHolds o i = t.slotHolds o i := by
  simp [State.slotHolds, State.leaseAt_congr h]

theorem State.held_congr {s t : State} (h : s.slots = t.slots) (o : OutputId) : s.held o = t.held o := by
  have : s.slotHolds o = t.slotHolds o := funext (State.slotHolds_congr h o)
  simp [State.held, this]

theorem State.holdersOf_congr {s t : State} (h : s.slots = t.slots) (o : OutputId) : s.holdersOf o = t.holdersOf o := by
  have : s.slotHolds o = t.slotHolds o := funext (State.slotHolds_congr h o)
  simp [State.holdersOf, this]

theorem State.occupied_congr {s t : State} (h : s.slots = t.slots) (c : Client) : s.occupied c = t.occupied c := by
  have : s.heldBy c = t.heldBy c := funext fun i => by simp [State.heldBy, State.leaseAt_congr h]
  simp [State.occupied, State.slotsOf, this]

/-! ### Insertion into the expiry queue -/

/-- Insertion adds the entry and keeps the others, each once (R76). -/
theorem insertEntry_perm (now : Tick) (e : Entry) (q : List Entry) : (insertEntry now e q).Perm (e :: q) := by
  induction q with
  | nil => exact .refl _
  | cons x q ih =>
    unfold insertEntry
    split
    · exact (ih.cons x).trans (.swap e x q)
    · exact .refl _

@[simp] theorem mem_insertEntry {now : Tick} {e x : Entry} {q : List Entry} : x ∈ insertEntry now e q ↔ x = e ∨ x ∈ q := by
  simp [(insertEntry_perm now e q).mem_iff]

/-! ### The part of the state that leases, reviews and notices leave alone -/

theorem Keeps.refl (s : State) : Keeps s s := by constructor <;> intros <;> rfl

theorem Spares.refl (s : State) : Spares s s where
  toKeeps := .refl s
  faults := rfl
  cutBy _ := rfl

theorem Keeps.trans {s t u : State} (h : Keeps s t) (k : Keeps t u) : Keeps s u where
  power := k.power.trans h.power
  pins := k.pins.trans h.pins
  mode := k.mode.trans h.mode
  clock := k.clock.trans h.clock
  counts := k.counts.trans h.counts
  link := k.link.trans h.link
  pending := k.pending.trans h.pending
  maxTerm o := (k.maxTerm o).trans (h.maxTerm o)
  gap o := (k.gap o).trans (h.gap o)
  drive o := (k.drive o).trans (h.drive o)
  partners o := (k.partners o).trans (h.partners o)
  opened c := (k.opened c).trans (h.opened c)
  epoch c := (k.epoch c).trans (h.epoch c)
  response c := (k.response c).trans (h.response c)
  quota c := (k.quota c).trans (h.quota c)
  mask c := (k.mask c).trans (h.mask c)

theorem Spares.trans {s t u : State} (h : Spares s t) (k : Spares t u) : Spares s u where
  toKeeps := h.toKeeps.trans k.toKeeps
  faults := k.faults.trans h.faults
  cutBy o := (k.cutBy o).trans (h.cutBy o)

/-- A fold spares what each of its steps spares. -/
theorem Spares.foldl {α : Type} {f : State → α → State} (hf : ∀ s a, Spares s (f s a)) (l : List α) (s : State) :
    Spares s (l.foldl f s) := by
  induction l generalizing s with
  | nil => exact .refl s
  | cons a l ih => exact (hf s a).trans (ih (f s a))

/-- An update that keeps the spared fields whole. -/
theorem Spares.of_eq {s t : State} (h : t.power = s.power ∧ t.pins = s.pins ∧ t.mode = s.mode ∧ t.clock = s.clock ∧
    t.counts = s.counts ∧ t.faults = s.faults ∧ t.link = s.link ∧ t.pending = s.pending ∧ t.outputs = s.outputs ∧
    t.sessions = s.sessions) : Spares s t := by
  obtain ⟨h1, h2, h3, h4, h5, h6, h7, h8, h9, h10⟩ := h
  refine ⟨?_, by simp_all, by simp_all [State.output]⟩
  constructor <;> intros <;> simp_all [State.output, State.session]

theorem schedule_spares (s : State) (k : Key) (n : Nat) : Spares s (s.schedule k n) := .of_eq (by simp)

theorem unschedule_spares (s : State) (k : Key) : Spares s (s.unschedule k) := .of_eq (by simp)

theorem putLease_spares (s : State) (i : SlotId) (l : Option Lease) : Spares s (s.putLease i l) := .of_eq (by simp)

theorem putSlot_spares (s : State) (i : SlotId) (x : Slot) : Spares s (s.putSlot i x) := .of_eq (by simp)

theorem updateAtn_spares (s : State) : Spares s s.updateAtn := .of_eq (by simp)

theorem waitQueue_spares (s : State) (q : List SlotId) : Spares s { s with waitQueue := q } := .of_eq (by simp)

/-- Writing an output's state alone spares the rest. -/
theorem putOutput_state_spares (s : State) (o : OutputId) (x : OutState) :
    Spares s (s.putOutput o { s.output o with state := x }) := by
  refine ⟨?_, by simp, by intros; simp; split <;> simp_all⟩
  constructor <;> intros <;> simp [State.session] <;> split <;> simp_all

/-- Writing a session's pending set and outcome alone spares the rest. -/
theorem putSession_notices_spares (s : State) (c : Client) (n : NoticeSet) (x : Option (Handle × Outcome)) :
    Spares s (s.putSession c { s.session c with notices := n, outcome := x }) := by
  refine ⟨?_, by simp, by simp [State.output]⟩
  constructor <;> intros <;> simp [State.output] <;> split <;> simp_all

theorem notify_spares (s : State) (c : Client) (k : Notice) : Spares s (s.notify c k) := by
  unfold State.notify
  split
  · exact (putSession_notices_spares s c _ (s.session c).outcome).trans (updateAtn_spares _)
  · exact .refl s

theorem setOutcome_spares (s : State) (c : Client) (h : Handle) (o : Outcome) : Spares s (s.setOutcome c h o) :=
  putSession_notices_spares s c (s.session c).notices _

theorem notifyMode_spares (s : State) : Spares s s.notifyMode := Spares.foldl (fun t c => notify_spares t c _) _ s

/-- Recomputing an output changes its state and line and its SETTLE entry, and nothing else (R32, R33). -/
theorem recompute_spares (s : State) (o : OutputId) : Spares s (s.recompute o) := by
  unfold State.recompute
  dsimp only
  split
  · split
    · exact (putOutput_state_spares s o _).trans (schedule_spares _ _ _)
    · exact putOutput_state_spares s o _
  · exact putOutput_state_spares s o _
  · exact (putOutput_state_spares s o _).trans (unschedule_spares _ _)
  · exact .refl s

theorem recomputeAll_spares (s : State) (S : OutputSet) : Spares s (s.recomputeAll S) :=
  Spares.foldl recompute_spares _ s

@[simp] theorem recompute_slots (s : State) (o : OutputId) : (s.recompute o).slots = s.slots := by
  unfold State.recompute; dsimp only; split <;> (try split) <;> rfl

@[simp] theorem recompute_sessions (s : State) (o : OutputId) : (s.recompute o).sessions = s.sessions := by
  unfold State.recompute; dsimp only; split <;> (try split) <;> rfl

@[simp] theorem recompute_waitQueue (s : State) (o : OutputId) : (s.recompute o).waitQueue = s.waitQueue := by
  unfold State.recompute; dsimp only; split <;> (try split) <;> rfl

@[simp] theorem recompute_atnLow (s : State) (o : OutputId) : (s.recompute o).atnLow = s.atnLow := by
  unfold State.recompute; dsimp only; split <;> (try split) <;> rfl

/-- A field that every step of a fold keeps, the fold keeps. -/
theorem foldl_keeps {α β : Type} {f : State → α → State} {g : State → β} (hf : ∀ s a, g (f s a) = g s) (l : List α)
    (s : State) : g (l.foldl f s) = g s := by
  induction l generalizing s with
  | nil => rfl
  | cons a l ih => exact (ih (f s a)).trans (hf s a)

@[simp] theorem recomputeAll_slots (s : State) (S : OutputSet) : (s.recomputeAll S).slots = s.slots :=
  foldl_keeps recompute_slots _ s

@[simp] theorem recomputeAll_sessions (s : State) (S : OutputSet) : (s.recomputeAll S).sessions = s.sessions :=
  foldl_keeps recompute_sessions _ s

@[simp] theorem recomputeAll_waitQueue (s : State) (S : OutputSet) : (s.recomputeAll S).waitQueue = s.waitQueue :=
  foldl_keeps recompute_waitQueue _ s

@[simp] theorem recomputeAll_atnLow (s : State) (S : OutputSet) : (s.recomputeAll S).atnLow = s.atnLow :=
  foldl_keeps recompute_atnLow _ s

@[simp] theorem notify_slots (s : State) (c : Client) (k : Notice) : (s.notify c k).slots = s.slots := by
  unfold State.notify; split <;> rfl

@[simp] theorem notify_outputs (s : State) (c : Client) (k : Notice) : (s.notify c k).outputs = s.outputs := by
  unfold State.notify; split <;> rfl

@[simp] theorem notify_gLines (s : State) (c : Client) (k : Notice) : (s.notify c k).gLines = s.gLines := by
  unfold State.notify; split <;> rfl

@[simp] theorem notify_waitQueue (s : State) (c : Client) (k : Notice) : (s.notify c k).waitQueue = s.waitQueue := by
  unfold State.notify; split <;> rfl

@[simp] theorem notify_expiry (s : State) (c : Client) (k : Notice) : (s.notify c k).expiry = s.expiry := by
  unfold State.notify; split <;> rfl

/-! ### The review (R59, R60) -/

theorem grantWaiting_spares (s : State) (i : SlotId) (l : Lease) : Spares s (s.grantWaiting i l) := by
  unfold State.grantWaiting
  exact ((((waitQueue_spares s _).trans (unschedule_spares _ _)).trans (putLease_spares _ _ _)).trans
    (schedule_spares _ _ _)).trans ((recomputeAll_spares _ _).trans (notify_spares _ _ _))

theorem reviewFrom_spares (ahead rest : List SlotId) (s : State) : Spares s (reviewFrom ahead rest s) := by
  induction rest generalizing ahead s with
  | nil => exact .refl s
  | cons i rest ih =>
    unfold reviewFrom
    split
    · split
      · exact (grantWaiting_spares s i _).trans (ih _ _)
      · exact ih _ _
    · exact ih _ _

theorem review_spares (s : State) : Spares s s.review := reviewFrom_spares _ _ s

theorem reviewIf_spares (s : State) (b : Bool) : Spares s (s.reviewIf b) := by
  cases b
  · exact .refl s
  · exact review_spares s

/-- A review of an empty queue changes nothing (R58). -/
theorem review_empty {s : State} (h : s.waitQueue = []) : s.review = s := by simp [State.review, h, reviewFrom]

/-! ### Ends of a lease (R11, R12, R16) and of an offer (6.2, 6.3) -/

theorem unscheduleSlot_spares (s : State) (i : SlotId) : Spares s (s.unscheduleSlot i) :=
  ((unschedule_spares s _).trans (unschedule_spares _ _)).trans (unschedule_spares _ _)

theorem endLease_spares (s : State) (i : SlotId) (why : EndReason) (d : Option FaultId) :
    Spares s (s.endLease i why d) := by
  unfold State.endLease
  split
  · exact .refl s
  · split
    · exact .refl s
    · exact (((unscheduleSlot_spares s i).trans (putLease_spares _ _ _)).trans (waitQueue_spares _ _)).trans
        (notify_spares _ _ _)
    · exact (((unscheduleSlot_spares s i).trans (putLease_spares _ _ _)).trans (recomputeAll_spares _ _)).trans
        (notify_spares _ _ _)
    · exact ((((unscheduleSlot_spares s i).trans (putLease_spares _ _ _)).trans (recomputeAll_spares _ _)).trans
        (setOutcome_spares _ _ _ _)).trans ((notify_spares _ _ _).trans (notify_spares _ _ _))

theorem freeSlot_spares (s : State) (i : SlotId) : Spares s (s.freeSlot i) := by
  unfold State.freeSlot
  split
  · exact .refl s
  · have h := ((unscheduleSlot_spares s i).trans (putLease_spares _ i none)).trans
      (waitQueue_spares _ (((s.unscheduleSlot i).putLease i none).waitQueue.erase i))
    dsimp only
    split
    · exact h.trans (recomputeAll_spares _ _)
    · exact h

theorem resolveOffer_spares (s : State) (i : SlotId) (o : Outcome) : Spares s (s.resolveOffer i o) := by
  unfold State.resolveOffer
  split
  · exact .refl s
  · split
    · exact ((unschedule_spares s _).trans (putLease_spares _ _ _)).trans (setOutcome_spares _ _ _ _)
    all_goals exact .refl s

theorem returnOffer_spares (c : Client) (s : State) (i : SlotId) : Spares s (returnOffer c s i) := by
  unfold returnOffer
  split
  · exact (resolveOffer_spares s i _).trans (notify_spares _ _ _)
  · exact .refl s

theorem chargeSlot_spares (ch : CountId) (s : State) (i : SlotId) : Spares s (chargeSlot ch s i) := by
  unfold chargeSlot
  split
  · exact .refl s
  · dsimp only
    split
    · exact (putLease_spares s _ _).trans (endLease_spares _ _ _ _)
    · exact putLease_spares s _ _

theorem haltAll_spares (s : State) (is : List SlotId) : Spares s (s.haltAll is) :=
  Spares.foldl (fun t i => endLease_spares t i _ _) _ s

end Sys2Proof.Machine
end

