-- ==== Sys2Proof/Laws/Link.lean ====
section
/-! SUPPORT. The link's receiver on a whole frame, and what becomes of a frame that is heard: taken as sent, discarded, or
not seen (R168 to R170, R175). -/

namespace Sys2Proof.Machine

/-! ### The receiver over a frame's bytes -/

/-- A byte kept by the receiver in FRAME. -/
theorem Link.nextByte_keep {l : Link} {b : Byte} (hr : l.rx = .frame)
    (h : l.partialFrame.length < 4 ∨ 4 < l.partialFrame.length ∧
      l.partialFrame.length < 5 + (l.partialFrame.getD 4 0).toNat) : (l.nextByte b).1 = l.keep b := by
  unfold Link.nextByte
  rw [hr]
  dsimp only
  rcases h with h | ⟨h1, h2⟩
  · rw [if_pos h]
  · rw [if_neg (by omega), if_neg (by omega), if_pos h2]

/-- The receiver after keeping a run of bytes. -/
theorem Link.keep_run {l : Link} (hr : l.rx = .frame) (h5 : 4 < l.partialFrame.length) (ps : List Byte)
    (hn : l.partialFrame.length + ps.length ≤ 5 + (l.partialFrame.getD 4 0).toNat) :
    ps.foldl (fun m x => (m.nextByte x).1) l =
      { l with partialFrame := l.partialFrame ++ ps, running := ps.foldl crcByte l.running } := by
  induction ps generalizing l with
  | nil => simp
  | cons b ps ih =>
    simp only [List.length_cons] at hn
    rw [List.foldl_cons, Link.nextByte_keep hr (.inr ⟨h5, by omega⟩)]
    have hd : (l.keep b).partialFrame.getD 4 0 = l.partialFrame.getD 4 0 := by
      simp [Link.keep, List.getD_eq_getElem?_getD, List.getElem?_append_left h5]
    rw [ih (by rfl) (by simp [Link.keep]; omega) (by rw [hd]; simp only [Link.keep, List.length_append, List.length_singleton]; omega)]
    simp [Link.keep, hr]

/-- A parameter length of at most 20 survives its byte. -/
theorem byte_length {n : Nat} (h : n ≤ Config.maxParams) : (byte n).toNat = n := by
  simp only [Config.maxParams] at h
  simp [byte]; omega

/-- The receiver after the bytes of a frame before its check byte (R168). -/
theorem Link.receive_body (l : Link) {code : Byte} {f : Frame} (hc : f.client.toNat < 8)
    (hp : f.params.length ≤ Config.maxParams) :
    ∃ b bs, frameBytes code f = b :: bs ∧ l.receive (frameBytes code f) =
      (Link.nextByte { l with rx := .frame, partialFrame := frameBody code f, running := crc8 (frameBody code f)
                              drivingSda := false } f.check).1 := by
  refine ⟨f.client, [f.epoch, f.seq, code, byte f.params.length] ++ f.params ++ [f.check], rfl, ?_⟩
  have h1 : (l.firstByte f.client).1 = l.toIdle.keep f.client := by simp [Link.firstByte, hc]
  have h4 : ∀ {m : Link}, m.rx = .frame → m.partialFrame.length = 4 →
      (m.nextByte (byte f.params.length)).1 = m.keep (byte f.params.length) := by
    intro m hm hl
    simp [Link.nextByte, hm, hl, byte_length hp, hp]
  have e : frameBytes code f = f.client :: ([f.epoch, f.seq, code, byte f.params.length] ++ (f.params ++ [f.check])) := by
    simp [frameBytes, frameBody]
  rw [e]
  simp only [Link.receive, h1, List.foldl_append, List.foldl_cons, List.foldl_nil]
  rw [Link.nextByte_keep (b := f.epoch) rfl (.inl (by simp [Link.keep, Link.toIdle])),
    Link.nextByte_keep (b := f.seq) rfl (.inl (by simp [Link.keep, Link.toIdle])),
    Link.nextByte_keep (b := code) rfl (.inl (by simp [Link.keep, Link.toIdle])),
    h4 rfl (by simp [Link.keep, Link.toIdle]),
    Link.keep_run rfl (by simp [Link.keep, Link.toIdle]) f.params
      (by simp [Link.keep, Link.toIdle, byte_length hp])]
  simp [Link.keep, Link.toIdle, frameBody, crc8]

theorem frameBody_length (code : Byte) (f : Frame) : (frameBody code f).length = 5 + f.params.length := by
  simp [frameBody]; omega

theorem frameBody_lengthByte (code : Byte) (f : Frame) : (frameBody code f).getD 4 0 = byte f.params.length := rfl

/-- The check byte of a frame with a fit client and length: right, the receiver is COMPLETE; wrong, it is in DISCARD. -/
theorem Link.receive_frame (l : Link) {code : Byte} {f : Frame} (hc : f.client.toNat < 8)
    (hp : f.params.length ≤ Config.maxParams) :
    l.receive (frameBytes code f) =
      if f.check = crc8 (frameBody code f) then
        { l with rx := .complete, partialFrame := frameBytes code f, running := crc8 (frameBody code f)
                 drivingSda := false }
      else { l with rx := .discard, partialFrame := [], running := 0xFF, drivingSda := false } := by
  obtain ⟨-, -, -, h⟩ := Link.receive_body l (code := code) hc hp
  rw [h]
  simp only [Link.nextByte, frameBody_length, frameBody_lengthByte, byte_length hp]
  rw [if_neg (by omega), if_neg (by omega), if_neg (by omega)]
  split
  · simp_all [frameBytes]
  · rfl

/-- The fields of a frame read back from its bytes (R168). -/
theorem receivedOf_frameBytes (code : Byte) (f : Frame) :
    receivedOf (frameBytes code f) =
      { client := Fin.ofNat 8 f.client.toNat, epoch := f.epoch, seq := f.seq, code := code, params := f.params } := by
  simp [receivedOf, frameBytes, frameBody]

theorem byte_client (c : Client) : (byte c).toNat = c := by
  have := c.isLt
  simp [byte]; omega

/-! ### The state once the transaction is over -/

@[simp] theorem State.linkDone_slot (s : State) (i : SlotId) : s.linkDone.slot i = s.slot i := rfl
@[simp] theorem State.linkDone_leaseAt (s : State) (i : SlotId) : s.linkDone.leaseAt i = s.leaseAt i := rfl
@[simp] theorem State.linkDone_output (s : State) (o : OutputId) : s.linkDone.output o = s.output o := rfl
@[simp] theorem State.linkDone_count (s : State) (ch : CountId) : s.linkDone.count ch = s.count ch := rfl
@[simp] theorem State.linkDone_fault (s : State) (ch : FaultId) : s.linkDone.fault ch = s.fault ch := rfl
@[simp] theorem State.linkDone_session (s : State) (c : Client) : s.linkDone.session c = s.session c := rfl

/-! ### A transaction addressed elsewhere -/

/-- The part hears an address while it runs and the address is its own (R166). -/
theorem State.hears_iff {s : State} {addr : BitVec 7} :
    s.hears addr = true ↔ s.power = .running ∧ s.link.address = addr := by simp [State.hears]

/-- A read that is not acknowledged returns nothing (R163, R166). -/
theorem State.readTransaction_unheard {s : State} {addr : BitVec 7} (h : s.hears addr = false) (n : Nat) :
    s.readTransaction addr n = none := by simp [State.readTransaction, h]

/-- A running part passed by is in IDLE (R167). -/
theorem State.passedBy_running {s : State} (h : s.power = .running) : s.passedBy = s.linkDone := if_pos h

/-- In reset and the internal start the link is held, and nothing changes (R163). -/
theorem State.passedBy_held {s : State} (h : s.power ≠ .running) : s.passedBy = s := if_neg h

/-- A transaction addressed elsewhere moves nothing but the receiver. -/
theorem State.passedBy_cases (s : State) : s.passedBy = s.linkDone ∨ s.passedBy = s := by
  unfold State.passedBy
  split
  · exact .inl rfl
  · exact .inr rfl

/-! ### What becomes of a frame row -/

/-- A frame that is heard and well formed is taken as sent, with the receiver back in IDLE (R170). -/
theorem frameRow_taken {code : Byte} {take : Received → State → State} {f : Frame} {s : State}
    (hh : s.hears f.addr = true) (hw : f.wf code = true) :
    frameRow code take f s =
      take { client := Fin.ofNat 8 f.client.toNat, epoch := f.epoch, seq := f.seq, code := code, params := f.params }
        s.linkDone := by
  simp only [Frame.wf, Bool.and_eq_true, decide_eq_true_eq, beq_iff_eq] at hw
  simp [frameRow, hh, Link.receive_frame _ hw.1.1 hw.1.2, hw.2, receivedOf_frameBytes, State.linkDone, Link.toIdle]

/-- A frame that is not heard is passed by (R166, R163). -/
theorem frameRow_unheard {code : Byte} {take : Received → State → State} {f : Frame} {s : State}
    (hh : s.hears f.addr = false) : frameRow code take f s = s.passedBy := by
  simp [frameRow, hh]

/-- A frame with a wrong check byte is discarded: the receiver goes back to IDLE and nothing else moves (R170). -/
theorem frameRow_badCheck {code : Byte} {take : Received → State → State} {f : Frame} {s : State}
    (hh : s.hears f.addr = true) (hc : f.client.toNat < 8) (hp : f.params.length ≤ Config.maxParams)
    (hk : f.check ≠ crc8 (frameBody code f)) : frameRow code take f s = s.linkDone := by
  simp [frameRow, hh, Link.receive_frame _ hc hp, hk, State.linkDone, Link.toIdle]

/-- A frame in sequence whose code, length and sender pass steps 6 to 8 of R175 is carried out, and its answer is written to
the slot and the cache, provided its session is still OPEN then. -/
theorem command_result {code : Byte} {body : Body} {f : Frame} {c : Client} {s m : State} {row : CommandRow} {st : Status}
    {rs : List Byte} (hin : s.InSequence f code c) (hrow : lookupCommand code = some row)
    (hlen : f.params.length = row.length) (hsup : row.supervisor = true → c = 0)
    (hbody : body c f.params s.linkDone = (m, { status := st, results := rs }))
    (ho : (m.session c).opened.isSome = true) (he : (m.session c).epoch = (s.session c).epoch) :
    frameRow code (accept body) f s = m.withAnswer c (f.answer c code st rs) := by
  obtain ⟨hh, hw, hc, hep, hseq⟩ := hin
  obtain ⟨p, hp⟩ := Option.isSome_iff_exists.mp ho
  rw [frameRow_taken hh hw]
  have hcl : Fin.ofNat 8 f.client.toNat = c := by rw [hc, byte_client]; simp
  rw [hcl]
  cases hx : (s.session c).opened with
  | none => simp [hx] at hseq
  | some o =>
    simp only [hx, Option.map_some, Option.some.injEq] at hseq
    have hne : f.seq ≠ o.lastSeq := by
      rw [← hseq]
      intro h
      simpa using congrArg (· - o.lastSeq) h
    have hs : ¬(row.supervisor = true ∧ c ≠ 0) := fun h => h.2 (hsup h.1)
    unfold accept
    simp only [State.linkDone_session, hx, hrow, hbody, hep]
    rw [if_neg (by simp), if_neg hne, if_neg (by rw [hseq]; simp), if_neg (by simp [hlen]), if_neg hs]
    simp [State.conclude, State.responseTo, hp, he, hep, State.withAnswer, Frame.answer, State.putSession]

end Sys2Proof.Machine
end

