-- ==== Sys2Proof/Laws/PerInstr.lean ====
section
/-! SUPPORT. One statement per command, about the command as syntax: a well-formed frame row's frame passes the link's checks,
and its code is in the command table unless the row is UNKNOWN_COMMAND. -/

namespace Sys2Proof.Laws

open Machine

/-- The row's frame, if it is a frame and well formed, passes the link's checks of R168; and the code it carries is in the
command table of R180 exactly when the row is a command of it. -/
def FramePasses.Statement (i : Instr) : Prop :=
  ∀ code f, i.frame? = some (code, f) → i.wf = true →
    f.wf code = true ∧ ((lookupCommand code).isSome = true ↔ ∀ g k, i ≠ .unknownCommand g k)

/-- A row of the command table: its code is fixed, and well-formedness is its frame's. -/
theorem framePasses_of_table {i : Instr} {k : Byte} {g : Frame} (hf : i.frame? = some (k, g)) (hw : i.wf = g.wf k)
    (ht : (lookupCommand k).isSome = true) (hn : ∀ g k, i ≠ .unknownCommand g k) : FramePasses.Statement i := by
  intro code f h hwf
  obtain ⟨rfl, rfl⟩ : k = code ∧ g = f := by simpa [hf] using h
  exact ⟨hw ▸ hwf, iff_of_true ht hn⟩

/-- A row that is no frame. -/
theorem framePasses_of_event {i : Instr} (hf : i.frame? = none) : FramePasses.Statement i := by
  intro code f h
  simp [hf] at h

theorem FramePasses.openSession (f : Frame) (sen : Bool) : FramePasses.Statement (.openSession f sen) := framePasses_of_table rfl rfl (by decide) (by simp)

theorem FramePasses.closeSession (f : Frame) : FramePasses.Statement (.closeSession f) := framePasses_of_table rfl rfl (by decide) (by simp)

theorem FramePasses.readNotices (f : Frame) : FramePasses.Statement (.readNotices f) := framePasses_of_table rfl rfl (by decide) (by simp)

theorem FramePasses.setNoticeMask (f : Frame) : FramePasses.Statement (.setNoticeMask f) := framePasses_of_table rfl rfl (by decide) (by simp)

theorem FramePasses.status (f : Frame) : FramePasses.Statement (.status f) := framePasses_of_table rfl rfl (by decide) (by simp)

theorem FramePasses.request (f : Frame) : FramePasses.Statement (.request f) := framePasses_of_table rfl rfl (by decide) (by simp)

theorem FramePasses.release (f : Frame) : FramePasses.Statement (.release f) := framePasses_of_table rfl rfl (by decide) (by simp)

theorem FramePasses.renew (f : Frame) : FramePasses.Statement (.renew f) := framePasses_of_table rfl rfl (by decide) (by simp)

theorem FramePasses.extend (f : Frame) : FramePasses.Statement (.extend f) := framePasses_of_table rfl rfl (by decide) (by simp)

theorem FramePasses.ackEnd (f : Frame) : FramePasses.Statement (.ackEnd f) := framePasses_of_table rfl rfl (by decide) (by simp)

theorem FramePasses.query (f : Frame) : FramePasses.Statement (.query f) := framePasses_of_table rfl rfl (by decide) (by simp)

theorem FramePasses.list (f : Frame) : FramePasses.Statement (.list f) := framePasses_of_table rfl rfl (by decide) (by simp)

theorem FramePasses.offer (f : Frame) : FramePasses.Statement (.offer f) := framePasses_of_table rfl rfl (by decide) (by simp)

theorem FramePasses.accept (f : Frame) : FramePasses.Statement (.accept f) := framePasses_of_table rfl rfl (by decide) (by simp)

theorem FramePasses.decline (f : Frame) : FramePasses.Statement (.decline f) := framePasses_of_table rfl rfl (by decide) (by simp)

theorem FramePasses.withdraw (f : Frame) : FramePasses.Statement (.withdraw f) := framePasses_of_table rfl rfl (by decide) (by simp)

theorem FramePasses.readCounts (f : Frame) : FramePasses.Statement (.readCounts f) := framePasses_of_table rfl rfl (by decide) (by simp)

theorem FramePasses.start (f : Frame) : FramePasses.Statement (.start f) := framePasses_of_table rfl rfl (by decide) (by simp)

theorem FramePasses.halt (f : Frame) : FramePasses.Statement (.halt f) := framePasses_of_table rfl rfl (by decide) (by simp)

theorem FramePasses.setOutput (f : Frame) : FramePasses.Statement (.setOutput f) := framePasses_of_table rfl rfl (by decide) (by simp)

theorem FramePasses.setExclusion (f : Frame) : FramePasses.Statement (.setExclusion f) := framePasses_of_table rfl rfl (by decide) (by simp)

theorem FramePasses.setFault (f : Frame) : FramePasses.Statement (.setFault f) := framePasses_of_table rfl rfl (by decide) (by simp)

theorem FramePasses.setCount (f : Frame) : FramePasses.Statement (.setCount f) := framePasses_of_table rfl rfl (by decide) (by simp)

theorem FramePasses.setQuota (f : Frame) : FramePasses.Statement (.setQuota f) := framePasses_of_table rfl rfl (by decide) (by simp)

theorem FramePasses.revoke (f : Frame) : FramePasses.Statement (.revoke f) := framePasses_of_table rfl rfl (by decide) (by simp)

theorem FramePasses.releaseFault (f : Frame) : FramePasses.Statement (.releaseFault f) := framePasses_of_table rfl rfl (by decide) (by simp)

theorem FramePasses.forceClose (f : Frame) : FramePasses.Statement (.forceClose f) := framePasses_of_table rfl rfl (by decide) (by simp)

theorem FramePasses.faultStatus (f : Frame) : FramePasses.Statement (.faultStatus f) := framePasses_of_table rfl rfl (by decide) (by simp)

theorem FramePasses.readSettings (f : Frame) : FramePasses.Statement (.readSettings f) := framePasses_of_table rfl rfl (by decide) (by simp)

theorem FramePasses.unknownCommand (f : Frame) (code : Byte) : FramePasses.Statement (.unknownCommand f code) := by
  intro k g h hw
  obtain ⟨rfl, rfl⟩ : code = k ∧ f = g := by simpa [Instr.frame?] using h
  simp only [Instr.wf, Bool.and_eq_true] at hw
  exact ⟨hw.1, iff_of_false (by cases h : lookupCommand code <;> simp_all) (by simp)⟩

theorem FramePasses.selectorWrite (addr : BitVec 7) (b : Byte) : FramePasses.Statement (.selectorWrite addr b) := framePasses_of_event rfl

theorem FramePasses.frameDiscarded (addr : BitVec 7) (bytes : List Byte) (ended : Bool) : FramePasses.Statement (.frameDiscarded addr bytes ended) := framePasses_of_event rfl

theorem FramePasses.linkTimeout (onBus : Option Transfer) : FramePasses.Statement (.linkTimeout onBus) := framePasses_of_event rfl

theorem FramePasses.deviceReset (cause : ResetCause) : FramePasses.Statement (.deviceReset cause) := framePasses_of_event rfl

theorem FramePasses.rstnRise (cause : RiseCause) : FramePasses.Statement (.rstnRise cause) := framePasses_of_event rfl

theorem FramePasses.internalStartEnd (ad1 ad0 : Bool) : FramePasses.Statement (.internalStartEnd ad1 ad0) := framePasses_of_event rfl

theorem FramePasses.clockAdvance (lines : Vector Bool 4) (how : Delivery) : FramePasses.Statement (.clockAdvance lines how) := framePasses_of_event rfl

theorem FramePasses.leaseExpiry (i : SlotId) : FramePasses.Statement (.leaseExpiry i) := framePasses_of_event rfl

theorem FramePasses.offerTimeout (i : SlotId) : FramePasses.Statement (.offerTimeout i) := framePasses_of_event rfl

theorem FramePasses.waitExpiry (i : SlotId) : FramePasses.Statement (.waitExpiry i) := framePasses_of_event rfl

theorem FramePasses.settleEnd (o : OutputId) : FramePasses.Statement (.settleEnd o) := framePasses_of_event rfl

theorem FramePasses.recoverDue (ch : FaultId) : FramePasses.Statement (.recoverDue ch) := framePasses_of_event rfl

theorem FramePasses.quietDue (ch : FaultId) : FramePasses.Statement (.quietDue ch) := framePasses_of_event rfl

theorem FramePasses.faultTrip (ch : FaultId) : FramePasses.Statement (.faultTrip ch) := framePasses_of_event rfl

theorem FramePasses.faultClear (ch : FaultId) : FramePasses.Statement (.faultClear ch) := framePasses_of_event rfl

theorem FramePasses.latchedLevelChange (ch : FaultId) : FramePasses.Statement (.latchedLevelChange ch) := framePasses_of_event rfl

theorem FramePasses.countedEdge (ch : CountId) : FramePasses.Statement (.countedEdge ch) := framePasses_of_event rfl

theorem FramePasses.countSample (ch : CountId) (level : Bool) : FramePasses.Statement (.countSample ch level) := framePasses_of_event rfl

end Sys2Proof.Laws
end

