-- ==== Sys2Proof/Tests/Slice0.lean ====
section
/-! SUPPORT. Tests of single steps against the worked sequences of spec/, the smoke tests of `WellFormed`, and for every
statement with hypotheses a state and operands that meet them. -/

namespace Sys2Proof.Tests

open Sys2Proof Sys2Proof.Machine

-- The checks run one after the other: a thread for each would not fit under the compile's memory limit.
set_option Elab.async false

/-! ### The states the tests start from -/

/-- The state after a command, and the same state where it gives none. -/
def after (i : Instr) (s : State) : State :=
  match exec i s with
  | .next t => t
  | .fault _ => s
  | .refused _ => s

/-- An OPEN session at epoch 1 with last sequence 20. -/
def opened (c : Client) : Session :=
  { Session.reset c with opened := some ⟨20, ⟨c, 1, 20, 0x05, .ok, []⟩⟩, epoch := 1, response := some ⟨c, 1, 20, 0x05, .ok, []⟩ }

/-- The part in SETUP at address 5Bh and tick 85000 with the bring-up settings of 11.1; clients 0 to 3 are OPEN. -/
def bringUp : State :=
  let pair : Output := { Output.reset with maxTerm := 20000, gap := 200 }
  { State.reset with
    power := .running
    clock := 85000
    pins := { Pins.reset with rstn := true, sen := true, ad0 := true }
    outputs := (State.reset.outputs.set 2 { pair with partners := 0x08 }).set 3 { pair with partners := 0x04 }
    counts := State.reset.counts.set 0 { CountChannel.reset with enabled := true, interval := .us512 }
    faults := State.reset.faults.set 0
      { FaultChannel.reset with enabled := true, filterSamples := 2, cutSet := 0x0C, latchLimit := 1 }
    sessions := Vector.ofFn fun c : Client =>
      if c = 1 then { opened c with quota := 6 } else if c < 4 then opened c else Session.reset c
    link := { Link.reset with address := 0x5B } }

/-- The valve lease 0/1 of 11.6, with a count bound of its own. -/
def valve : Lease :=
  { holder := 1, tag := 7, outputs := 0x04, kind := .shared, term := 15000, count := some ⟨0, 2, 1⟩
    phase := .live 75000 90000 }

/-- The lease 1/1 of 11.6, offered by client 2 to client 1. -/
def offered : Lease :=
  { holder := 2, tag := 8, outputs := 0x20, kind := .sole, term := 8000, count := none
    phase := .offered 80000 88000 1 86000 }

/-- The waiting request 2/1 of 11.6. -/
def waiting : Lease :=
  { holder := 2, tag := 9, outputs := 0x08, kind := .shared, term := 4000, count := none, phase := .waiting 85500 }

/-- The waiting request 3/1 of 11.6. -/
def second : Lease :=
  { holder := 1, tag := 10, outputs := 0x04, kind := .sole, term := 4000, count := none, phase := .waiting 86700 }

/-- The ended record 4/1 of 11.6. -/
def ended : Lease :=
  { holder := 3, tag := 11, outputs := 0x80, kind := .shared, term := 500, count := none
    phase := .ended (some 70000) .expired 70500 none }

/-- The state of 11.6 before its HALT. -/
def workshop : State :=
  let t := { bringUp with mode := .run, waitQueue := [2, 3]
                          expiry := [⟨85500, .wait 2⟩, ⟨86000, .offer 1⟩, ⟨86700, .wait 3⟩, ⟨88000, .lease 1⟩,
                            ⟨90000, .lease 0⟩] }
  { t with
    slots := ((((t.slots.set 0 ⟨1, some valve⟩).set 1 ⟨1, some offered⟩).set 2 ⟨1, some waiting⟩).set 3 ⟨1, some second⟩).set 4
      ⟨1, some ended⟩
    outputs := (t.outputs.set 2 { t.output 2 with state := .on }).set 5 { t.output 5 with state := .on }
    gLines := (t.gLines.set 2 true).set 5 true
    sessions := t.sessions.set 1 { t.session 1 with notices := 0x04 }
    atnLow := true }

/-- A frame of client `c` in sequence, with the right check byte. -/
def ask (c : Client) (code : Byte) (params : List Byte) : Frame :=
  Frame.seal code { addr := 0x5B, client := byte c, epoch := 1, seq := 21, params := params, check := 0 }

/-- Status and results of client `c`'s response. -/
def answer (s : State) (c : Client) : Option (Status × List Byte) := (s.session c).response.map fun x => (x.status, x.results)

/-- The state with the clock at `t`. -/
def at_ (t : Tick) (s : State) : State := { s with clock := t }

/-- A REQUEST's parameters with no count bound. -/
def wants (outputs kind : Byte) (term wait : Nat) : List Byte :=
  [outputs, kind] ++ leBytes 3 term ++ leBytes 2 wait ++ [0xFF, 0, 0, 0x2A]

/-! ### Well-formedness -/

theorem test_wf_accepts : (Instr.halt (ask 0 0x31 [])).wf = true ∧ (Instr.unknownCommand (ask 7 0x3C []) 0x3C).wf = true ∧
    (Instr.selectorWrite 0x5B 0x87).wf = true ∧ (Instr.frameDiscarded 0x5B [0x08] false).wf = true ∧
    (Instr.frameDiscarded 0x5B [0x07, 1] true).wf = true ∧ (Instr.linkTimeout none).wf = true := by decide +kernel

theorem test_wf_refuses_client_8 :
    (Instr.status (Frame.seal 0x05 { ask 0 0x05 [] with client := 0x08 })).wf = false := by decide +kernel

theorem test_wf_refuses_21_parameters : (Instr.status (ask 1 0x05 (List.replicate 21 0))).wf = false := by decide +kernel

theorem test_wf_refuses_a_wrong_check_byte : (Instr.status { ask 1 0x05 [] with check := 0x00 }).wf = false := by
  decide +kernel

theorem test_wf_refuses_another_rows_check_byte : (Instr.status (ask 1 0x03 [])).wf = false := by decide +kernel

theorem test_wf_refuses_a_known_code : (Instr.unknownCommand (ask 1 0x05 []) 0x05).wf = false := by decide +kernel

theorem test_wf_refuses_selector_bytes :
    (Instr.selectorWrite 0x5B 0x7F).wf = false ∧ (Instr.selectorWrite 0x5B 0x88).wf = false := by decide +kernel

theorem test_wf_refuses_undiscarded_frames :
    (Instr.frameDiscarded 0x5B (frameBytes 0x05 (ask 1 0x05 [])) true).wf = false ∧
    (Instr.frameDiscarded 0x5B [0x01, 1] false).wf = false ∧ (Instr.frameDiscarded 0x5B [0x80] true).wf = false := by
  decide +kernel

theorem test_no_word_spells_a_command : decodeTableWord 8 0x30 = none ∧
    State.reset.withFetchWord 8 0x30 = State.reset := by decide +kernel

/-! ### The link and the sessions -/

-- R169: the check byte of 03h 00h 00h 01h 00h is 1Dh.
theorem test_check_byte : crc8 [0x03, 0x00, 0x00, 0x01, 0x00] = 0x1D := by decide +kernel

-- The same frame, OPEN of client 3 with sequence 0, is acknowledged whole.
theorem test_open_frame_is_acknowledged :
    Link.reset.acks [0x03, 0x00, 0x00, 0x01, 0x00, 0x1D] = [true, true, true, true, true, true] := by decide +kernel

-- 11.1, tick 40: OPEN (0) of client 0 is answered OK, epoch 1; last sequence 0.
theorem test_open :
    let s := { bringUp with sessions := State.reset.sessions }
    let t := after (.openSession (Frame.seal 0x01 { ask 0 0x01 [] with epoch := 0, seq := 0 }) true) s
    answer t 0 = some (.ok, [0x01]) ∧ (t.session 0).opened.map (·.lastSeq) = some 0 := by decide +kernel

-- R146: CLOSE leaves client 2 nothing, and its slots are FREE.
theorem test_close :
    let t := after (.closeSession (ask 2 0x02 [])) workshop
    t.occupied 2 = 0 ∧ t.isOpen 2 = false ∧ answer t 2 = some (.ok, []) := by decide +kernel

-- 11.6: client 1 has OFFER_IN pending, which is position 2 (R150).
theorem test_read_notices :
    let t := after (.readNotices (ask 1 0x03 [])) workshop
    answer t 1 = some (.ok, [0x04, 0xFF, 0xFF, 0xFF]) ∧ t.atnLow = false := by decide +kernel

theorem test_set_notice_mask :
    let t := after (.setNoticeMask (ask 1 0x04 [0x03])) workshop
    (t.session 1).mask = 0x03 ∧ (t.session 1).notices = 0x04 ∧ t.atnLow = false := by decide +kernel

-- R154 on 11.6: RUN, clock 85000, G2 and G5 ON, 27 FREE slots, 2 waiting.
theorem test_status : answer (after (.status (ask 1 0x05 [])) workshop) 1 =
    some (.ok, [1, 0x08, 0x4C, 1, 0, 0, 0, 1, 0, 0, 1, 0, 0, 27, 2, 0, 0, 0, 0, 0x04]) := by decide +kernel

theorem test_unknown_command : answer (after (.unknownCommand (ask 1 0x3C []) 0x3C) workshop) 1 =
    some (.unknownCommand, []) := by decide +kernel

/-- The levels of the two wires through a byte, most significant bit first, and its acknowledge bit. -/
def byteLevels (b : Byte) (nack : Bool) : List Wires :=
  (((List.range 8).map fun k => b.getLsbD (7 - k)) ++ [nack]).flatMap fun d => [⟨false, d⟩, ⟨true, d⟩, ⟨false, d⟩]

/-- The levels from a START to a STOP with the bytes `bs` between them, all acknowledged. -/
def transactionLevels (bs : List Byte) : List Wires :=
  [⟨true, false⟩] ++ (bs.flatMap fun b => byteLevels b false) ++ [⟨false, false⟩, ⟨true, false⟩, ⟨true, true⟩]

-- R166: at 5Bh B6h begins a write and B7h a read, and the general call and other addresses are not acknowledged.
theorem test_address_byte :
    workshop.acksAddress 0xB6 = true ∧ workshop.acksAddress 0xB7 = true ∧ isRead 0xB6 = false ∧ isRead 0xB7 = true ∧
    workshop.acksAddress 0x00 = false ∧ workshop.acksAddress 0xB4 = false ∧ State.reset.acksAddress 0xB4 = false := by
  decide +kernel

-- R166, R169, R172: OPEN of client 3, a selector write and a read, as they pass on the wires.
theorem test_levels_on_the_bus :
    commandsOnBus true (transactionLevels [0xB6, 0x03, 0x00, 0x00, 0x01, 0x00, 0x1D] ++ transactionLevels [0xB6, 0x83] ++
      transactionLevels [0xB7, 0xFF] ++ transactionLevels [0xB6, 0x08]) =
    [.openSession ⟨0x5B, 0x03, 0x00, 0x00, [], 0x1D⟩ true, .selectorWrite 0x5B 0x83, .frameDiscarded 0x5B [0x08] true] := by
  decide +kernel

-- R166: a START with no STOP before it ends one transaction and begins the next.
theorem test_repeated_start :
    commandsOnBus true ([⟨true, false⟩] ++ byteLevels 0xB6 false ++ byteLevels 0x85 false ++ [⟨false, true⟩, ⟨true, true⟩] ++
      transactionLevels [0xB6, 0x80]) = [.selectorWrite 0x5B 0x85, .selectorWrite 0x5B 0x80] := by decide +kernel

-- R167: a START for another address ends a refused transaction.
theorem test_start_elsewhere_ends_discard :
    let s := after (.frameDiscarded 0x5B [0x08] false) workshop
    s.link.rx = .discard ∧ after (.selectorWrite 0x5A 0x83) s = s.linkDone := by decide +kernel

theorem test_selector_write : (after (.selectorWrite 0x5B 0x83) workshop).link.selector = 3 := by decide +kernel

-- R170: the second byte of a selector write is refused, and the receiver waits for the end condition in DISCARD.
theorem test_frame_discarded : (after (.frameDiscarded 0x5B [0x83, 0x00] false) workshop).link.rx = .discard ∧
    (after (.frameDiscarded 0x5B [0x83, 0x00] false) workshop).link.selector = 0 := by decide +kernel

theorem test_link_timeout :
    (after (.linkTimeout none) { workshop with link := { workshop.link with rx := .read, drivingSda := true } }).link =
      workshop.link := by decide +kernel

theorem test_device_reset : (after (.deviceReset .rstnLow) workshop).mode = .setup ∧
    (after (.deviceReset .rstnLow) workshop).gLines = State.reset.gLines := by decide +kernel

-- R178, R176: an OPEN that the reset discarded is carried out when it is sent again, and so is a frame in sequence behind it.
theorem test_resent_after_reset :
    let s := { State.reset with power := .running, link := { Link.reset with address := 0x5B } }
    let t := after (.openSession (Frame.seal 0x01 { ask 1 0x01 [] with seq := 20 }) false) s
    answer t 1 = some (.ok, [0x01]) ∧ (answer (after (.status (ask 1 0x05 [])) t) 1).map (·.1) = some .ok := by
  decide +kernel

theorem test_rstn_rise : (after (.rstnRise .rstnHigh) State.reset).power = .starting := by decide +kernel

-- R166: the address with AD1 high and AD0 low is 5Ch.
theorem test_internal_start_end :
    (after (.internalStartEnd true false) (after (.rstnRise .rstnHigh) State.reset)).link.address = 0x5C := by decide +kernel

theorem test_force_close : (after (.forceClose (ask 0 0x39 [0x02])) workshop).occupied 2 = 0 := by decide +kernel

-- 11.1, tick 70: quota 6 for client 1.
theorem test_set_quota : ((after (.setQuota (ask 0 0x36 [0x01, 0x06])) bringUp).session 1).quota = 6 := by decide +kernel

/-! ### Leases and the arbiter -/

-- 11.6, tick 85210: lease 5/1 with deadline 85210 + 4000 = 89210; G3 rises.
theorem test_request_granted :
    let s := at_ 85210 (after (.start (ask 0 0x30 [])) bringUp)
    let s := { s with slots := workshop.slots.map fun x => if x.lease.isSome then ⟨1, some ended⟩ else x }
    let t := after (.request (ask 1 0x10 (wants 0x08 0x00 4000 0))) s
    answer t 1 = some (.ok, [5, 1, 0x7A, 0x5C, 1, 0]) ∧ (t.output 3).state = .on ∧ t.gLines[3] = true := by decide +kernel

-- Lease 0/1 holds G2, so a SOLE request for it joins the queue behind 2/1 and 3/1 until 85000 + 1000 = 86000.
theorem test_request_queued :
    let t := after (.request (ask 1 0x10 (wants 0x04 0x01 4000 1000))) workshop
    t.waitQueue = [2, 3, 5] ∧ answer t 1 = some (.queued, [5, 1, 0xF0, 0x4F, 1, 0]) := by decide +kernel

-- 11.5, tick 86310: slot FREE; here G2 loses its only holder and settles for 200 ticks.
theorem test_release :
    let t := after (.release (ask 1 0x11 [0x00, 0x01])) (at_ 85100 workshop)
    (t.slot 0) = ⟨1, none⟩ ∧ ((t.output 2).state = .settle) ∧ ⟨85300, .settle 2⟩ ∈ t.expiry := by decide +kernel

-- 11.5, tick 86000: the deadline becomes 86000 + 4000 = 90000.
theorem test_renew : answer (after (.renew (ask 1 0x12 ([0x00, 0x01] ++ leBytes 3 4000))) (at_ 86000 workshop)) 1 =
    some (.ok, [0x90, 0x5F, 1, 0]) := by decide +kernel

theorem test_extend : answer (after (.extend (ask 1 0x13 [0x00, 0x01, 0xFD, 0xFF])) workshop) 1 =
    some (.ok, [0xFF, 0xFF, 1, 0]) := by decide +kernel

theorem test_ack_end :
    let t := after (.ackEnd (ask 3 0x14 [0x04, 0x01])) workshop
    answer t 3 = some (.ok, [0x01, 0x64, 0x13, 1, 0, 0xFF]) ∧ t.slot 4 = ⟨1, none⟩ := by decide +kernel

-- R182 on request 3/1 of 11.6: queue position 1, wait deadline 86700.
theorem test_query : answer (after (.query (ask 1 0x15 [0x03, 0x01])) workshop) 1 =
    some (.ok, [3, 1, 1, 1, 10, 0x04, 1, 0xA0, 0x0F, 0, 1, 0xAC, 0x52, 1, 0] ++ List.replicate 24 0xFF) := by
  decide +kernel

-- 11.6: client 1 holds 0/1 and 3/1.
theorem test_list : answer (after (.list (ask 1 0x16 [])) workshop) 1 = some (.ok, [2, 0, 1, 3, 1]) := by decide +kernel

theorem test_revoke : ((after (.revoke (ask 0 0x37 [0x02, 0x01])) workshop).slot 2).lease.map (·.phase) =
    some (.ended none .revoked 85000 none) := by decide +kernel

/-! ### Transfer -/

theorem test_offer :
    let t := after (.offer (ask 1 0x20 [0x00, 0x01, 0x03, 0x64, 0x00])) workshop
    (t.session 3).notices = 0x04 ∧ (t.leaseAt 0).map (·.phase) = some (.offered 75000 90000 3 85100) := by decide +kernel

theorem test_accept :
    let t := after (.accept (ask 1 0x21 [0x01, 0x01])) workshop
    (t.leaseAt 1).map (·.holder) = some 1 ∧ (t.session 2).outcome = some (⟨1, 1⟩, .accepted) := by decide +kernel

theorem test_decline :
    let t := after (.decline (ask 1 0x22 [0x01, 0x01])) workshop
    (t.session 2).outcome = some (⟨1, 1⟩, .declined) ∧ (t.session 2).notices = 0x08 := by decide +kernel

theorem test_withdraw :
    let t := after (.withdraw (ask 2 0x23 [0x01, 0x01])) workshop
    (t.session 2).outcome = some (⟨1, 1⟩, .withdrawn) ∧ (t.session 2).notices = 0 := by decide +kernel

theorem test_offer_timeout :
    let t := after (.offerTimeout 1) { (at_ 86000 workshop) with expiry := workshop.expiry.tail }
    (t.leaseAt 1).map (·.phase) = some (.live 80000 88000) ∧ (t.session 2).outcome = some (⟨1, 1⟩, .timedOut) := by
  decide +kernel

/-! ### Modes, settings and reports -/

theorem test_start : (after (.start (ask 0 0x30 [])) bringUp).mode = .run ∧
    ((after (.start (ask 0 0x30 [])) bringUp).session 1).notices = 0x20 := by decide +kernel

-- 11.6, tick 85000: the answer, the one entry left, and ENDED with OFFER_OUT and MODE for client 2.
theorem test_halt :
    let t := after (.halt (ask 0 0x31 [])) workshop
    answer t 0 = some (.ok, [2, 2]) ∧ t.expiry = [⟨85200, .settle 2⟩] ∧ (t.session 2).notices = 0x29 := by decide +kernel

-- 11.1, tick 45: max term 20000, gap 200; an ACTIVE_LOW line stands high while its output is OFF (R38).
theorem test_set_output :
    let t := after (.setOutput (ask 0 0x32 ([0x02] ++ leBytes 3 20000 ++ leBytes 2 200 ++ [0x01]))) bringUp
    t.output 2 = { bringUp.output 2 with drive := .activeLow } ∧ t.gLines[2] = true := by decide +kernel

-- 11.1, ticks 55 and 75: the section's bytes after SET_EXCLUSION 2, 3.
theorem test_set_exclusion_and_read_settings :
    let s := after (.setExclusion (ask 0 0x33 [0x02, 0x03, 0x01])) { bringUp with outputs := State.reset.outputs }
    answer (after (.readSettings (Frame.seal 0x3B { ask 0 0x3B [0x01] with seq := 22 })) s) 0 =
      some (.ok, [0, 0, 0x08, 0x04, 0, 0, 0, 0]) := by decide +kernel

-- 11.1, tick 60.
theorem test_set_fault :
    let s := { bringUp with faults := State.reset.faults }
    (after (.setFault (ask 0 0x34 ([0, 1, 0, 2, 0x0C] ++ leBytes 2 500 ++ [1] ++ leBytes 3 10000))) s).fault 0 =
      bringUp.fault 0 := by decide +kernel

-- 11.1, tick 65.
theorem test_set_count :
    (after (.setCount (ask 0 0x35 [0, 1, 0, 3])) { bringUp with counts := State.reset.counts }).count 0 =
      bringUp.count 0 := by decide +kernel

-- 11.1, tick 90: F0 reads 00h, 0, 00h.
theorem test_fault_status : answer (after (.faultStatus (ask 0 0x3A [])) bringUp) 0 =
    some (.ok, List.replicate 12 0) := by decide +kernel

theorem test_read_counts : answer (after (.readCounts (ask 1 0x28 [])) workshop) 1 =
    some (.ok, List.replicate 12 0 ++ [0x08, 0x4C, 1, 0]) := by decide +kernel

/-! ### The clock, counting and faults -/

/-- All four fault inputs low but F0 as given. -/
def f0 (level : Bool) : Vector Bool 4 := (Vector.replicate 4 false).set 0 level

/-- F0 one sample short of a trip. -/
def alarm : State := { workshop with faults := workshop.faults.set 0 { workshop.fault 0 with run := 1 } }

/-- F0 after the sample that makes its trip due. -/
def tripping : State := after (.clockAdvance (f0 true) .stepwise) alarm

/-- F0 TRIPPED below its limit, with the sample that clears it due. -/
def clearing : State :=
  let x := workshop.fault 0
  { workshop with
    faults := workshop.faults.set 0
      { x with latchLimit := 3, state := .tripped, tripCount := 1, filtered := true, run := 1, changeDue := true } }

/-- F0 LATCHED with its cut on G2 and G3, its level inactive. -/
def latched : State :=
  { bringUp with
    outputs := (bringUp.outputs.set 2 { bringUp.output 2 with state := .cut, cutBy := 1 }).set 3
      { bringUp.output 3 with state := .cut, cutBy := 1 }
    faults := bringUp.faults.set 0 { bringUp.fault 0 with state := .latched, tripCount := 1 } }

/-- F0 RECOVERING below its limit, its RECOVER entry due. -/
def recovering : State :=
  { latched with
    faults := bringUp.faults.set 0 { bringUp.fault 0 with latchLimit := 3, state := .recovering, tripCount := 1 }
    expiry := [⟨85000, .recover 0⟩] }

/-- C0 with its last sample high and its level still low. -/
def stroke : State := { workshop with counts := workshop.counts.set 0 { workshop.count 0 with lastSample := true } }

theorem test_clock_advance : (after (.clockAdvance (f0 false) .within) (at_ 0xFFFFFFFF bringUp)).clock = 0 ∧
    (tripping.fault 0).changeDue = true := by decide +kernel

-- R124 with a latch limit of 1: the trip latches, lease 0/1 ends FAULT naming F0, G2 is cut.
theorem test_fault_trip :
    let t := after (.faultTrip 0) tripping
    (t.fault 0).state = .latched ∧ (t.output 2).state = .cut ∧
      (t.leaseAt 0).map (·.phase) = some (.ended (some 75000) .fault 85001 (some 0)) := by decide +kernel

theorem test_fault_clear :
    let t := after (.faultClear 0) clearing
    (t.fault 0).state = .recovering ∧ ⟨85500, .recover 0⟩ ∈ t.expiry := by decide +kernel

theorem test_latched_level_change :
    let s := { latched with faults := latched.faults.set 0 { latched.fault 0 with changeDue := true, run := 1 } }
    ((after (.latchedLevelChange 0) s).fault 0).filtered = true ∧
      ((after (.latchedLevelChange 0) s).fault 0).state = .latched := by decide +kernel

theorem test_recover_due :
    let t := after (.recoverDue 0) recovering
    (t.fault 0).state = .idle ∧ (t.output 2).state = .off ∧ t.expiry = [⟨95000, .quiet 0⟩] := by decide +kernel

theorem test_quiet_due :
    let t := after (.recoverDue 0) recovering
    ((after (.quietDue 0) (at_ 95000 t)).fault 0).tripCount = 0 := by decide +kernel

theorem test_release_fault :
    let t := after (.releaseFault (ask 0 0x38 [0x00])) latched
    (t.fault 0).state = .idle ∧ (t.output 3).state = .off := by decide +kernel

theorem test_lease_expiry :
    let s := { (at_ 90000 workshop) with expiry := [⟨90000, .lease 0⟩], waitQueue := [] }
    (after (.leaseExpiry 0) s).leaseAt 0 = some { valve with phase := .ended (some 75000) .expired 90000 none } := by
  decide +kernel

-- 11.6 without its HALT: the WAIT entry of 2/1 falls due at 85500.
theorem test_wait_expiry :
    (after (.waitExpiry 2) (at_ 85500 workshop)).waitQueue = [3] := by decide +kernel

-- 11.6, tick 85200: G2 goes to OFF.
theorem test_settle_end :
    let s := at_ 85200 (after (.halt (ask 0 0x31 [])) workshop)
    ((after (.settleEnd 2) s).output 2).state = .off ∧ (after (.settleEnd 2) s).expiry = [] := by decide +kernel

-- R95: the edge spends the valve lease's budget of 2, and the lease ends COUNT_SPENT.
theorem test_counted_edge :
    let t := after (.countedEdge 0) stroke
    (t.count 0).total = 1 ∧ (t.leaseAt 0).map (·.phase) = some (.ended (some 75000) .countSpent 85000 none) := by
  decide +kernel

theorem test_count_sample : (after (.countSample 0 true) workshop).count 0 = { workshop.count 0 with lastSample := true } ∧
    ((after (.countSample 0 true) stroke).count 0).filtered = true := by decide +kernel

/-! ### Witnesses: for each statement with hypotheses, a state and operands that meet those of every clause -/

/-- The bring-up state in RUN. -/
def running : State := { bringUp with mode := .run }

/-- What a REQUEST's bytes carry. -/
def asked (outputs kind : Byte) (term wait : Nat) : RequestParams :=
  { outputs := outputs, kind := kind, term := term, wait := wait, channel := 0xFF, budget := 0, tag := 0x2A }

theorem witness_StepRunsFrontCommand :
    { workshop with pending := [.linkTimeout none] }.pending = [.linkTimeout none] ∧ workshop.pending = [] := by
  decide +kernel

theorem witness_WellFormedFrameIsReadBack :
    (ask 0 0x31 []).wf 0x31 = true ∧ (ask 0 0x31 []).client = byte 0 ∧
    (ask 7 0x10 (List.replicate 20 0xFF)).wf 0x10 = true ∧ (ask 7 0x10 (List.replicate 20 0xFF)).client = byte 7 := by
  decide +kernel

theorem witness_UnheardFramesChangeNothing :
    (Instr.status (ask 1 0x05 [])).frame? = some (0x05, ask 1 0x05 []) ∧ State.reset.power ≠ .running ∧
    workshop.power = .running ∧ workshop.link.address ≠ { ask 1 0x05 [] with addr := 0x5A }.addr := by decide +kernel

/-- A frame with 20 parameters and a wrong check byte. -/
def damaged : Frame := { ask 7 0x3C (List.replicate 20 0) with check := 0 }

theorem witness_WrongFramesChangeNothing :
    (Instr.unknownCommand damaged 0x3C).frame? = some (0x3C, damaged) ∧ workshop.power = .running ∧
    workshop.link.address = damaged.addr ∧ damaged.client.toNat < 8 ∧ damaged.params.length ≤ 20 ∧
    damaged.check ≠ crc8 (frameBody 0x3C damaged) ∧ lookupCommand 0x3C = none := by decide +kernel

theorem witness_DiscardAndTimeoutMoveTheReceiverAlone :
    workshop.hears 0x5B = true ∧ workshop.link.address ≠ 0x5A ∧ discards [0x08] true = true ∧ discards [0x07] true = true ∧
    discards [0x08] false = true ∧ discards [0x01, 0, 0, 0, 21] false = true ∧ workshop.power = .running ∧
    State.reset.power ≠ .running := by decide +kernel

theorem witness_SelectorWriteSetsTheSelector :
    workshop.power = .running ∧ workshop.link.address = 0x5B ∧ workshop.link.address ≠ 0x5A ∧ State.reset.power ≠ .running ∧ (0x7F : Byte).toNat < 0x80 ∧ 0x88 ≤ (0x88 : Byte).toNat ∧ 0x80 ≤ (0x80 : Byte).toNat ∧
    (0x87 : Byte).toNat < 0x88 := by decide +kernel

theorem witness_ReadReturnsTheSelectedSlot :
    workshop.power = .running ∧ workshop.link.address = 0x5B ∧
    (workshop.session workshop.link.selector).response = some ⟨0, 1, 20, 0x05, .ok, []⟩ ∧
    (let s := { workshop with link := { workshop.link with selector := 7 } }
     s.power = .running ∧ s.link.address = 0x5B ∧ (s.session s.link.selector).response = none) ∧
    State.reset.power ≠ .running ∧ workshop.link.address ≠ 0x5A := by decide +kernel

theorem witness_AcceptanceStepsOneToFive :
    (Instr.status (ask 4 0x05 [])).frame? = some (0x05, ask 4 0x05 []) ∧ (Instr.status (ask 4 0x05 [])).wf = true ∧
    workshop.hears (ask 4 0x05 []).addr = true ∧ (workshop.session 4).opened = none ∧
    (workshop.session 1).opened = some ⟨20, ⟨1, 1, 20, 0x05, .ok, []⟩⟩ ∧ (workshop.session 1).epoch = 1 ∧
    (Instr.status (Frame.seal 0x05 { ask 1 0x05 [] with epoch := 2 })).wf = true ∧
    (Instr.status (Frame.seal 0x05 { ask 1 0x05 [] with seq := 20 })).wf = true ∧
    (Instr.status (Frame.seal 0x05 { ask 1 0x05 [] with seq := 22 })).wf = true ∧
    (22 : Byte) ≠ 20 ∧ (22 : Byte) ≠ 20 + 1 := by decide +kernel

theorem witness_AcceptanceStepsSixToEight :
    workshop.InSequence (ask 1 0x3C []) 0x3C 1 ∧ lookupCommand 0x3C = none ∧
    workshop.InSequence (ask 1 0x05 [0]) 0x05 1 ∧ lookupCommand 0x05 = some ⟨0x05, 0, false⟩ ∧
    (ask 1 0x05 [0]).params.length ≠ 0 ∧ workshop.InSequence (ask 1 0x31 []) 0x31 1 ∧
    lookupCommand 0x31 = some ⟨0x31, 0, true⟩ ∧ (ask 1 0x31 []).params.length = 0 ∧ (1 : Client) ≠ 0 := by decide +kernel

theorem witness_ResetAndStartUp :
    State.reset.power = .inReset ∧ (after (.rstnRise .rstnHigh) State.reset).power = .starting ∧
    workshop.power ≠ .inReset ∧ workshop.power ≠ .starting := by decide +kernel

theorem witness_OpenOpensOrIsRefused :
    workshop.hears (ask 0 0x01 []).addr = true ∧ (ask 0 0x01 []).wf 0x01 = true ∧ (ask 0 0x01 []).client = byte 0 ∧
    (ask 0 0x01 []).params = [] ∧ (ask 7 0x01 []).wf 0x01 = true ∧ (ask 7 0x01 []).client = byte 7 ∧ (7 : Client) ≠ 0 ∧
    (ask 7 0x01 [0]).wf 0x01 = true ∧ (ask 7 0x01 [0]).params ≠ [] := by decide +kernel

theorem witness_CloseAndForceClose :
    workshop.InSequence (ask 1 0x02 []) 0x02 1 ∧ (ask 1 0x02 []).params = [] ∧
    workshop.InSequence (ask 0 0x39 [0x00]) 0x39 0 ∧ workshop.InSequence (ask 0 0x39 [0x08]) 0x39 0 ∧
    8 ≤ (0x08 : Byte).toNat ∧ workshop.InSequence (ask 0 0x39 [0x07]) 0x39 0 ∧ (0x07 : Byte) = byte (7 : Client) ∧
    workshop.isOpen 7 = false ∧ workshop.InSequence (ask 0 0x39 [0x01]) 0x39 0 ∧ workshop.isOpen 1 = true := by
  decide +kernel

theorem witness_FullCloseLeavesNothingHeld :
    workshop.heldBy 1 0 = true ∧ workshop.leaseAt 1 = some offered ∧ offered.holder ≠ 1 ∧
    offered.phase = .offered 80000 88000 1 86000 ∧ workshop.heldBy 1 4 = false ∧ workshop.giverTo 1 4 = none ∧
    workshop.waitingAt 4 = false ∧ workshop.heldBy 1 2 = false ∧ workshop.waitingAt 2 = true ∧
    workshop.giverTo 1 1 = some 2 ∧ (∀ j, 1 < j → workshop.giverTo 1 j ≠ some 2) ∧ workshop.isOpen 2 = true ∧
    (∀ i, workshop.activeOf 3 i = false) ∧ workshop.heldBy 3 0 = false ∧ workshop.giverTo 3 0 = none := by decide +kernel

theorem witness_NoticesAreReadAndMasked :
    workshop.InSequence (ask 1 0x03 []) 0x03 1 ∧ workshop.InSequence (ask 1 0x04 [0x3F]) 0x04 1 ∧
    (0x3F : Byte) = (0x3F : NoticeSet).zeroExtend 8 ∧ workshop.InSequence (ask 1 0x04 [0x40]) 0x04 1 ∧
    (0x40 : Byte) &&& 0xC0 ≠ 0 ∧ (0x80 : Byte) &&& 0xC0 ≠ 0 := by decide +kernel

theorem witness_SetQuotaWritesTheQuota :
    workshop.InSequence (ask 0 0x36 [1, 6]) 0x36 0 ∧ workshop.mode = .run ∧
    bringUp.InSequence (ask 0 0x36 [8, 6]) 0x36 0 ∧ bringUp.mode = .setup ∧
    bringUp.InSequence (ask 0 0x36 [7, 33]) 0x36 0 ∧ (0x07 : Byte) = byte (7 : Client) ∧
    bringUp.InSequence (ask 0 0x36 [7, 32]) 0x36 0 ∧ bringUp.occupied 7 ≤ (32 : Byte).toNat ∧
    (0x01 : Byte).toNat < { workshop with mode := .setup }.occupied 1 := by decide +kernel

theorem witness_StaticChecksInOrder :
    bringUp.QuotaLaw ∧ bringUp.mode = .setup ∧ running.QuotaLaw ∧ running.mode = .run ∧
    (0x01 : Byte) = Kind.sole.code ∧ 0x01 < (0x02 : Byte).toNat ∧ (0x04 : Byte) ≠ 0xFF ∧ 4 ≤ (0x04 : Byte).toNat ∧
    (0x00 : Byte) = byte (0 : CountId) ∧ (running.count 0).enabled = true ∧ (running.count 3).enabled = false ∧
    (asked 0x01 1 600000 60000).kind = Kind.sole.code ∧ (asked 0x01 1 600000 60000).channel = 0xFF ∧
    (asked 0x01 1 600000 60000).term ≤ 600000 ∧ (asked 0x01 1 600000 60000).wait ≤ 60000 ∧
    600000 < (asked 0x01 1 600001 60000).term := by decide +kernel

theorem witness_AdmissibleRequestIsGranted :
    running.InSequence (ask 3 0x10 (wants 0x08 0 20000 0)) 0x10 3 ∧
    (ask 3 0x10 (wants 0x08 0 20000 0)).params = [0x08, 0, 0x20, 0x4E, 0, 0, 0, 0xFF, 0, 0, 0x2A] ∧
    0x20 + 256 * 0x4E + 65536 * 0 = 20000 ∧
    (running.staticChecks 3 (asked 0x08 0 20000 0)).toOption = some (.shared, 0) ∧
    running.admissible running.waitQueue 0x08 .shared = true ∧
    running.InSequence (ask 3 0x10 [0x08, 0, 0x20, 0x4E, 0, 0, 0, 0, 0xFF, 0xFF, 0x2A]) 0x10 3 ∧
    (running.staticChecks 3 ⟨0x08, 0, 20000, 0, 0, 65535, 0x2A⟩).toOption = some (.shared, 0) ∧
    (0x00 : Byte) = byte (0 : CountId) := by decide +kernel

theorem witness_BlockedRequestIsQueued :
    workshop.InSequence (ask 3 0x10 (wants 0x04 1 4000 1)) 0x10 3 ∧
    (ask 3 0x10 (wants 0x04 1 4000 1)).params = [0x04, 1, 0xA0, 0x0F, 0, 1, 0, 0xFF, 0, 0, 0x2A] ∧
    0xA0 + 256 * 0x0F + 65536 * 0 = 4000 ∧ workshop.InSequence (ask 3 0x10 [0x04, 1, 0xA0, 0x0F, 0, 1, 0, 0, 1, 0, 0]) 0x10 3 ∧
    (workshop.staticChecks 3 ⟨0x04, 1, 4000, 1, 0, 1, 0⟩).toOption = some (.sole, 5) ∧
    (workshop.staticChecks 3 (asked 0x04 1 4000 1)).toOption = some (.sole, 5) ∧
    workshop.admissible workshop.waitQueue 0x04 .sole = false ∧ workshop.waitQueue.length < 12 := by decide +kernel

/-- A status that a static check answers. -/
def refusal (s : State) (c : Client) (r : RequestParams) : Option Status :=
  match s.staticChecks c r with
  | .error st => some st
  | .ok _ => none

theorem witness_RefusedRequestIsInSequence :
    workshop.InSequence (ask 3 0x10 (wants 0x0C 0 4000 0)) 0x10 3 ∧
    (ask 3 0x10 (wants 0x0C 0 4000 0)).params = [0x0C, 0, 0xA0, 0x0F, 0, 0, 0, 0xFF, 0, 0, 0x2A] ∧
    workshop.InSequence (ask 3 0x10 (wants 0x04 1 4000 0)) 0x10 3 ∧
    (ask 3 0x10 (wants 0x04 1 4000 0)).params = [0x04, 1, 0xA0, 0x0F, 0, 0, 0, 0xFF, 0, 0, 0x2A] ∧
    { latched with mode := .run }.InSequence (ask 3 0x10 (wants 0x04 1 4000 1)) 0x10 3 := by decide +kernel

theorem witness_RefusedRequestTakesNothing :
    refusal workshop 3 (asked 0x00 0 4000 0) = some .badParameter ∧
    refusal workshop 3 (asked 0x0C 0 4000 0) = some .selfExcluded ∧
    (workshop.staticChecks 3 (asked 0x04 1 4000 0)).toOption = some (.sole, 5) ∧
    workshop.admissible workshop.waitQueue 0x04 .sole = false ∧
    (∀ o : OutputId, (0x04 : OutputSet).getLsbD o = true → (workshop.output o).state ≠ .cut) ∧
    ({ latched with mode := .run }.staticChecks 3 (asked 0x04 1 4000 0)).toOption = some (.sole, 0) ∧
    latched.admissible latched.waitQueue 0x04 .sole = false ∧
    ((0x04 : OutputSet).getLsbD 2 = true ∧ (latched.output 2).state = .cut) ∧
    (let full := { latched with mode := .run, waitQueue := (List.finRange 32).take 12 }
     (full.staticChecks 3 (asked 0x04 1 4000 1)).toOption = some (.sole, 0) ∧
       full.admissible full.waitQueue 0x04 .sole = false ∧ 12 ≤ full.waitQueue.length) := by decide +kernel

theorem witness_ReviewLeavesNothingToGrant :
    workshop.QueueLaw ∧ workshop.review.waitQueue = [2] ++ 3 :: [] ∧ workshop.review.leaseAt 3 = some second := by
  decide +kernel

-- The review of the same state with lease 0/1 gone and G2 OFF grants request 2/1.
theorem witness_ReviewGrantsWaitingRequests :
    let s := workshop.freeSlot 0
    let t := { s with outputs := s.outputs.set 2 { s.output 2 with state := .off } }
    t.QueueLaw ∧ (t.review.leaseAt 2).map (·.phase) = some (.live 85000 89000) ∧ t.review.waitQueue = [3] := by
  decide +kernel

theorem witness_LeaseCommandsCheckHandleThenCaller :
    workshop.named 0 1 = some (0, valve) ∧ workshop.named 31 1 = none ∧ workshop.named 32 1 = none ∧
    workshop.named 0 2 = none ∧ workshop.InSequence (ask 1 0x11 [0, 2]) 0x11 1 ∧
    (Instr.release (ask 1 0x11 [0, 2])).frame? = some (0x11, ask 1 0x11 [0, 2]) ∧
    (Instr.release (ask 1 0x11 [0, 2])).wf = true ∧ lookupCommand 0x11 = some ⟨0x11, 2, false⟩ ∧
    workshop.InSequence (ask 2 0x11 [0, 1]) 0x11 2 ∧ valve.holder ≠ 2 ∧ workshop.InSequence (ask 0 0x37 [32, 1]) 0x37 0 ∧
    lookupCommand 0x37 = some ⟨0x37, 2, true⟩ := by decide +kernel

theorem witness_EndedRecordOutlastsLateCommands :
    workshop.named 4 1 = some (4, ended) ∧ ended.phase = .ended (some 70000) .expired 70500 none ∧ ended.holder = 3 ∧
    workshop.InSequence (ask 3 0x11 [4, 1]) 0x11 3 ∧ (ask 3 0x11 [4, 1]).params.length = 2 ∧
    workshop.InSequence (ask 1 0x21 [4, 1]) 0x21 1 ∧ lookupCommand 0x21 = some ⟨0x21, 2, false⟩ ∧
    workshop.InSequence (ask 0 0x37 [4, 1]) 0x37 0 := by decide +kernel

theorem witness_ReleaseFreesTheSlot :
    workshop.InSequence (ask 1 0x11 [0, 1]) 0x11 1 ∧ workshop.named 0 1 = some (0, valve) ∧ valve.holder = 1 ∧
    valve.phase = .live 75000 90000 ∧ workshop.InSequence (ask 2 0x11 [2, 1]) 0x11 2 ∧
    workshop.named 2 1 = some (2, waiting) ∧ waiting.holder = 2 ∧ waiting.phase = .waiting 85500 ∧
    workshop.InSequence (ask 2 0x11 [1, 1]) 0x11 2 ∧ workshop.named 1 1 = some (1, offered) ∧ offered.holder = 2 ∧
    offered.phase = .offered 80000 88000 1 86000 := by decide +kernel

theorem witness_FreeingASlot :
    workshop.leaseAt 0 = some valve ∧ workshop.leaseAt 2 = some waiting ∧ workshop.InOrder := by decide +kernel

theorem witness_EndingALease :
    workshop.leaseAt 1 = some offered ∧ offered.phase.isLive = true ∧ workshop.leaseAt 2 = some waiting ∧
    waiting.phase.isWaiting = true ∧ workshop.InOrder := by decide +kernel

theorem witness_AckEndFreesTheRecord :
    workshop.InSequence (ask 3 0x14 [4, 1]) 0x14 3 ∧ workshop.named 4 1 = some (4, ended) ∧ ended.holder = 3 ∧
    workshop.InSequence (ask 1 0x14 [0, 1]) 0x14 1 ∧ workshop.named 0 1 = some (0, valve) ∧ valve.holder = 1 ∧
    valve.phase.isLive = true := by decide +kernel

theorem witness_QueryReportsTheRecord :
    workshop.InSequence (ask 2 0x15 [0, 1]) 0x15 2 ∧ workshop.named 0 1 = some (0, valve) ∧ valve.holder ≠ 2 ∧
    workshop.InSequence (ask 1 0x15 [0, 1]) 0x15 1 ∧ workshop.InSequence (ask 2 0x15 [2, 1]) 0x15 2 ∧
    workshop.named 2 1 = some (2, waiting) ∧ workshop.InSequence (ask 1 0x15 [1, 1]) 0x15 1 ∧
    workshop.named 1 1 = some (1, offered) ∧ workshop.InSequence (ask 0 0x15 [4, 1]) 0x15 0 ∧
    workshop.named 4 1 = some (4, ended) := by decide +kernel

theorem witness_RevokeEndsTheLease :
    workshop.InSequence (ask 0 0x37 [2, 1]) 0x37 0 ∧ workshop.named 2 1 = some (2, waiting) ∧
    workshop.InSequence (ask 0 0x37 [1, 1]) 0x37 0 ∧ workshop.named 1 1 = some (1, offered) ∧
    offered.phase.isLive = true := by decide +kernel

theorem witness_ReportsChangeNothing :
    workshop.InSequence (ask 1 0x16 []) 0x16 1 ∧ workshop.InSequence (ask 1 0x05 []) 0x05 1 ∧
    workshop.InSequence (ask 1 0x28 []) 0x28 1 ∧ workshop.InSequence (ask 0 0x3A []) 0x3A 0 ∧
    (∀ b : Fin 6, workshop.InSequence (ask 0 0x3B [byte b]) 0x3B 0) ∧ 5 ≤ (0x05 : Byte).toNat := by decide +kernel

theorem witness_OutputsFollowTheirHolders : workshop.InOrder := by decide +kernel

theorem witness_SetOutputWritesTheSettings :
    workshop.InSequence (ask 0 0x32 [7, 0xC0, 0x27, 9, 0x88, 0x13, 1]) 0x32 0 ∧ workshop.mode = .run ∧
    bringUp.InSequence (ask 0 0x32 [7, 0xC0, 0x27, 9, 0x88, 0x13, 1]) 0x32 0 ∧ bringUp.mode = .setup ∧
    0xC0 + 256 * 0x27 + 65536 * 9 = 600000 ∧ 0x88 + 256 * 0x13 = 5000 ∧ (0x01 : Byte) = Drive.activeLow.code ∧
    (0x07 : Byte) = byte (7 : OutputId) ∧ bringUp.InSequence (ask 0 0x32 [8, 0xC1, 0x27, 9, 0x89, 0x13, 2]) 0x32 0 ∧
    (1 : Client) ≠ 0 ∧ bringUp.InSequence (ask 1 0x32 [7, 0, 0, 0, 0, 0, 0]) 0x32 1 := by decide +kernel

theorem witness_SetExclusionWritesThePair :
    workshop.InSequence (ask 0 0x33 [0, 7, 1]) 0x33 0 ∧ workshop.mode = .run ∧
    bringUp.InSequence (ask 0 0x33 [0, 7, 1]) 0x33 0 ∧ bringUp.InSequence (ask 0 0x33 [0, 7, 0]) 0x33 0 ∧
    bringUp.mode = .setup ∧ (0x07 : Byte) = byte (7 : OutputId) ∧ (0 : OutputId) ≠ 7 ∧
    bringUp.InSequence (ask 0 0x33 [8, 7, 1]) 0x33 0 ∧ bringUp.InSequence (ask 0 0x33 [7, 7, 1]) 0x33 0 ∧
    bringUp.InSequence (ask 0 0x33 [0, 7, 2]) 0x33 0 ∧ (1 : Client) ≠ 0 ∧
    bringUp.InSequence (ask 1 0x33 [0, 7, 1]) 0x33 1 := by decide +kernel

theorem witness_SetExclusionInSetup : bringUp.mode = .setup ∧ bringUp.QueueLaw ∧ bringUp.OutputLaw := by decide +kernel

theorem witness_InsertionKeepsTheOrder :
    workshop.expiry.Pairwise (fun a b => remaining workshop.clock a.deadline ≤ remaining workshop.clock b.deadline) := by
  decide +kernel

theorem witness_ClockAdvanceTicksAndSamples :
    workshop.power = .running ∧ State.reset.power ≠ .running ∧ (∀ e ∈ workshop.expiry, e.deadline ≠ workshop.clock) ∧
    (∀ ch, (workshop.fault ch).changeDue = false) ∧
    (at_ 85500 workshop).expiry = ⟨(at_ 85500 workshop).clock, .wait 2⟩ :: workshop.expiry.tail ∧
    (at_ 85500 workshop).power = .running ∧ (at_ 85500 workshop).DeadlineLaw := by decide +kernel

theorem witness_LevelChangesAreTaken :
    tripping.power = .running ∧ (tripping.fault 0).changeDue = true ∧ (tripping.fault 0).filtered = false ∧
    (tripping.fault 0).state = .idle ∧ (∀ e ∈ tripping.expiry, e.deadline ≠ tripping.clock) ∧
    clearing.power = .running ∧ (clearing.fault 0).changeDue = true ∧ (clearing.fault 0).filtered = true ∧
    (clearing.fault 0).state = .tripped := by decide +kernel

theorem witness_AdvanceDeliversEverythingDue :
    workshop.power = .running ∧ workshop.DeadlineLaw ∧
    exec (.clockAdvance (f0 true) .within) workshop = .next (after (.clockAdvance (f0 true) .within) workshop) :=
  ⟨by decide +kernel, by decide +kernel, rfl⟩

theorem witness_LeaseAndWaitEntriesEndTheirLeases :
    (at_ 85500 workshop).power = .running ∧ (at_ 85500 workshop).expiry = ⟨85500, .wait 2⟩ :: workshop.expiry.tail ∧
    (at_ 85500 workshop).leaseAt 2 = some waiting ∧ waiting.phase.isWaiting = true ∧
    ({ at_ 90000 workshop with expiry := [⟨90000, .lease 0⟩] }).leaseAt 0 = some valve ∧ valve.phase.isLive = true ∧
    (⟨85500, .wait 2⟩ : Entry) ≠ ⟨workshop.clock, .wait 2⟩ ∧ (⟨85500, .wait 2⟩ : Entry) ≠ ⟨85500, .lease 2⟩ := by
  decide +kernel

theorem witness_OfferTimeoutReturnsTheLease :
    let s := { at_ 86000 workshop with expiry := workshop.expiry.tail }
    s.power = .running ∧ s.expiry = ⟨s.clock, .offer 1⟩ :: workshop.expiry.tail.tail ∧
    (∀ e ∈ workshop.expiry.tail.tail, e.key ≠ .offer 1) ∧ s.leaseAt 1 = some offered ∧
    offered.phase = .offered 80000 88000 1 86000 ∧ s.isOpen offered.holder = true := by decide +kernel

theorem witness_SettleAndQuietEntries :
    (let s := at_ 85200 (after (.halt (ask 0 0x31 [])) workshop)
     s.power = .running ∧ s.expiry = ⟨s.clock, .settle 2⟩ :: [] ∧ (s.output 2).state = .settle) ∧
    let s := at_ 95000 (after (.recoverDue 0) recovering)
    s.power = .running ∧ s.expiry = ⟨s.clock, .quiet 0⟩ :: [] ∧ (s.fault 0).state = .idle := by decide +kernel

theorem witness_RenewCountsFromNow :
    workshop.SettingLaw ∧ workshop.InSequence (ask 1 0x12 ([0, 1] ++ leBytes 3 20000)) 0x12 1 ∧
    (ask 1 0x12 ([0, 1] ++ leBytes 3 20000)).params = [0, 1, 0x20, 0x4E, 0] ∧ workshop.named 0 1 = some (0, valve) ∧
    valve.holder = 1 ∧ valve.outputs ≠ 0 ∧ valve.phase.isLive = true ∧ 0x20 + 256 * 0x4E + 65536 * 0 = 20000 ∧
    (∀ o : OutputId, valve.outputs.getLsbD o = true → 20000 ≤ (workshop.output o).maxTerm) ∧
    workshop.InSequence (ask 1 0x12 ([0, 1] ++ leBytes 3 20001)) 0x12 1 ∧
    (∃ o : OutputId, valve.outputs.getLsbD o = true ∧ (workshop.output o).maxTerm < 20001) ∧
    workshop.InSequence (ask 1 0x12 ([3, 1] ++ leBytes 3 1)) 0x12 1 ∧ workshop.named 3 1 = some (3, second) ∧
    second.phase = .waiting 86700 := by decide +kernel

theorem witness_SetCountRestartsTheChannel :
    workshop.InSequence (ask 0 0x35 [3, 1, 2, 3]) 0x35 0 ∧ workshop.mode = .run ∧
    bringUp.InSequence (ask 0 0x35 [3, 1, 2, 3]) 0x35 0 ∧ bringUp.mode = .setup ∧ (0x03 : Byte) = byte (3 : CountId) ∧
    (0x02 : Byte) = Edge.both.code ∧ (0x03 : Byte) = Interval.us512.code ∧
    bringUp.InSequence (ask 0 0x35 [4, 2, 3, 4]) 0x35 0 ∧ (1 : Client) ≠ 0 ∧
    bringUp.InSequence (ask 1 0x35 [3, 1, 2, 3]) 0x35 1 := by decide +kernel

theorem witness_CountSamplesFilterTheLine :
    workshop.power = .running ∧ (workshop.count 0).enabled = true ∧
    ¬(true = (workshop.count 0).lastSample ∧ true ≠ (workshop.count 0).filtered) ∧ (stroke.count 0).enabled = true ∧
    (true = (stroke.count 0).lastSample ∧ true ≠ (stroke.count 0).filtered ∧ (stroke.count 0).edge = .rising) ∧
    State.reset.power ≠ .running ∧ (workshop.count 3).enabled = false := by decide +kernel

theorem witness_CountedEdgeChargesLiveLeases :
    workshop.leaseAt 0 = some valve ∧ valve.phase.isLive = true ∧ valve.count = some ⟨0, 2, 1⟩ ∧ 1 + 1 = 2 ∧
    workshop.boundTo 0 1 = none ∧ workshop.waitingAt 1 = false ∧ workshop.waitingAt 2 = true ∧
    (∀ i, (workshop.boundTo 3 i).isNone = true) := by decide +kernel

theorem witness_ExtendRaisesTheBudget :
    workshop.InSequence (ask 1 0x13 [0, 1, 0xFD, 0xFF]) 0x13 1 ∧ workshop.named 0 1 = some (0, valve) ∧ valve.holder = 1 ∧
    valve.phase.isLive = true ∧ valve.count = some ⟨0, 2, 1⟩ ∧ 2 + (0xFD + 256 * 0xFF) = 65535 ∧
    workshop.InSequence (ask 1 0x13 [0, 1, 0xFE, 0xFF]) 0x13 1 ∧ 65535 < 2 + (0xFE + 256 * 0xFF) ∧
    workshop.InSequence (ask 1 0x13 [3, 1, 1, 0]) 0x13 1 ∧ workshop.named 3 1 = some (3, second) ∧ second.holder = 1 ∧
    second.phase = .waiting 86700 := by decide +kernel

theorem witness_OfferMakesTheLeaseOffered :
    workshop.InSequence (ask 1 0x20 [0, 1, 3, 0x10, 0x27]) 0x20 1 ∧ workshop.named 0 1 = some (0, valve) ∧
    valve.holder = 1 ∧ valve.phase = .live 75000 90000 ∧ (0x03 : Byte) = byte (3 : Client) ∧ workshop.isOpen 3 = true ∧
    (3 : Client) ≠ 1 ∧ 0x10 + 256 * 0x27 = 10000 ∧ workshop.InSequence (ask 1 0x20 [0, 1, 8, 0x11, 0x27]) 0x20 1 ∧
    10000 < 0x11 + 256 * 0x27 ∧ workshop.isOpen 4 = false ∧
    workshop.InSequence (ask 2 0x20 [1, 1, 3, 1, 0]) 0x20 2 ∧ workshop.named 1 1 = some (1, offered) ∧
    offered.holder = 2 ∧ offered.phase.offerDeadline.isSome = true := by decide +kernel

theorem witness_AcceptMovesTheLease :
    workshop.QuotaLaw ∧ workshop.InSequence (ask 1 0x21 [1, 1]) 0x21 1 ∧ workshop.named 1 1 = some (1, offered) ∧
    offered.phase = .offered 80000 88000 1 86000 ∧ workshop.occupied 1 ≠ (workshop.session 1).quota ∧
    workshop.isOpen offered.holder = true ∧
    (let s := { workshop with sessions := workshop.sessions.set 1 { workshop.session 1 with quota := 2 } }
     s.QuotaLaw ∧ s.occupied 1 = (s.session 1).quota ∧ s.InSequence (ask 1 0x21 [1, 1]) 0x21 1) ∧
    workshop.InSequence (ask 3 0x21 [1, 1]) 0x21 3 ∧ (1 : Client) ≠ 3 ∧
    workshop.InSequence (ask 2 0x21 [0, 1]) 0x21 2 ∧ workshop.named 0 1 = some (0, valve) := by decide +kernel

theorem witness_DeclineAndWithdrawReturnTheLease :
    workshop.InSequence (ask 1 0x22 [1, 1]) 0x22 1 ∧ workshop.named 1 1 = some (1, offered) ∧
    offered.phase = .offered 80000 88000 1 86000 ∧ workshop.isOpen offered.holder = true ∧
    workshop.InSequence (ask 3 0x22 [1, 1]) 0x22 3 ∧ workshop.InSequence (ask 2 0x23 [1, 1]) 0x23 2 ∧
    offered.holder = 2 ∧ workshop.InSequence (ask 1 0x23 [0, 1]) 0x23 1 ∧ workshop.named 0 1 = some (0, valve) ∧
    valve.holder = 1 ∧ valve.phase = .live 75000 90000 := by decide +kernel

theorem witness_TripCutsAndEnds :
    tripping.power = .running ∧ (tripping.fault 0).changeDue = true ∧ (tripping.fault 0).filtered = false ∧
    (tripping.fault 0).state = .idle ∧ tripping.leaseAt 0 = some valve ∧ valve.phase.isLive = true ∧
    valve.outputs &&& (tripping.fault 0).cutSet ≠ 0 ∧ tripping.cutLease (tripping.fault 0).cutSet 1 = false ∧
    tripping.waitingAt 1 = false ∧ tripping.waitingAt 2 = true ∧ (tripping.fault 0).cutSet.getLsbD 3 = true ∧
    (tripping.fault 0).cutSet.getLsbD 5 = false ∧ tripping.isOpen 0 = true := by decide +kernel

theorem witness_ClearAndLatchedChange :
    clearing.power = .running ∧ (clearing.fault 0).changeDue = true ∧ (clearing.fault 0).state = .tripped ∧
    (clearing.fault 0).filtered = true ∧
    (let s := { latched with faults := latched.faults.set 0 { latched.fault 0 with changeDue := true } }
     s.power = .running ∧ (s.fault 0).changeDue = true ∧ (s.fault 0).state = .latched) := by decide +kernel

-- The outputs leave CUT in the first state, and F1 keeps them there in the second.
theorem witness_RecoverLiftsTheCut :
    recovering.power = .running ∧ recovering.expiry = ⟨recovering.clock, .recover 0⟩ :: [] ∧
    (recovering.fault 0).state = .recovering ∧ (recovering.output 2).state = .cut ∧
    (recovering.output 2).cutBy &&& ~~~(BitVec.twoPow 4 0) = 0 ∧
    (let out := { recovering.output 2 with cutBy := 3 }
     let s := { recovering with outputs := (recovering.outputs.set 2 out).set 3 out }
     s.expiry = ⟨s.clock, .recover 0⟩ :: [] ∧ (s.fault 0).state = .recovering ∧
       ∀ o, (s.output o).state = .cut → (s.output o).cutBy &&& ~~~(BitVec.twoPow 4 0) ≠ 0) := by decide +kernel

theorem witness_ReleaseFaultFreesALatchedChannel :
    latched.InSequence (ask 0 0x38 [4]) 0x38 0 ∧ 4 ≤ (0x04 : Byte).toNat ∧ latched.InSequence (ask 0 0x38 [3]) 0x38 0 ∧
    (0x03 : Byte) = byte (3 : FaultId) ∧ (latched.fault 3).state ≠ .latched ∧ latched.InSequence (ask 0 0x38 [0]) 0x38 0 ∧
    (latched.fault 0).state = .latched ∧ (latched.fault 0).filtered = false ∧
    (latched.output 2).cutBy &&& ~~~(BitVec.twoPow 4 0) = 0 ∧
    ({ latched with outputs := bringUp.outputs }.InSequence (ask 0 0x38 [0]) 0x38 0 ∧
      ∀ o, (bringUp.output o).state ≠ .cut) ∧
    (let s := { latched with faults := latched.faults.set 0 { latched.fault 0 with filtered := true } }
     s.InSequence (ask 0 0x38 [0]) 0x38 0 ∧ (s.fault 0).state = .latched ∧ (s.fault 0).filtered = true) := by
  decide +kernel

theorem witness_SetFaultRestartsTheChannel :
    workshop.InSequence (ask 0 0x34 [3, 1, 1, 16, 0xFF, 0x60, 0xEA, 15, 0xC0, 0x27, 9]) 0x34 0 ∧ workshop.mode = .run ∧
    bringUp.InSequence (ask 0 0x34 [3, 1, 1, 16, 0xFF, 0x60, 0xEA, 15, 0xC0, 0x27, 9]) 0x34 0 ∧ bringUp.mode = .setup ∧
    bringUp.waitQueue = [] ∧ (0x03 : Byte) = byte (3 : FaultId) ∧ 0x60 + 256 * 0xEA = 60000 ∧
    0xC0 + 256 * 0x27 + 65536 * 9 = 600000 ∧
    bringUp.InSequence (ask 0 0x34 [4, 2, 2, 1, 0xFF, 0, 0, 0, 0, 0, 0]) 0x34 0 ∧
    bringUp.InSequence (ask 0 0x34 [3, 1, 1, 2, 0, 1, 0, 1, 1, 0, 0]) 0x34 0 := by decide +kernel

theorem witness_StartEntersRun :
    workshop.InSequence (ask 0 0x30 []) 0x30 0 ∧ workshop.mode = .run ∧ bringUp.InSequence (ask 0 0x30 []) 0x30 0 ∧
    bringUp.mode = .setup ∧ bringUp.atnLow = bringUp.attention := by decide +kernel

theorem witness_HaltEndsEverything :
    bringUp.InSequence (ask 0 0x31 []) 0x31 0 ∧ bringUp.mode = .setup ∧ workshop.InSequence (ask 0 0x31 []) 0x31 0 ∧
    workshop.mode = .run ∧ workshop.QueueLaw ∧ workshop.OutputLaw ∧ workshop.waitingAt 2 = true ∧
    workshop.liveAt 0 = true ∧ workshop.liveAt 4 = false ∧ workshop.activeOf 1 0 = true ∧
    workshop.atnLow = workshop.attention := by decide +kernel

theorem witness_HaltVoidsOffers :
    workshop.heldBy 2 1 = true ∧ workshop.offeredAt 1 = true ∧ workshop.isOpen 2 = true ∧
    (∀ j, 1 < j → workshop.heldBy 2 j = true → workshop.offeredAt j = false) ∧
    ∀ i, workshop.heldBy 1 i = true → workshop.offeredAt i = false := by decide +kernel

/-- The state of 11.6 with a command waiting. -/
def due : State := { workshop with pending := [.halt (ask 0 0x31 [])] }

theorem witness_StepKeepsPartnersApart : due.SafetyLaw ∧ step due = .next (after (.halt (ask 0 0x31 [])) workshop) :=
  ⟨by decide +kernel, rfl⟩

theorem witness_StepKeepsTheDeadlines : due.DeadlineLaw := by decide +kernel

theorem witness_StepKeepsClosedSessionsEmpty : due.SessionLaw := by decide +kernel

theorem witness_StepKeepsTheQuotas : due.QuotaLaw := by decide +kernel

theorem witness_StepKeepsThePins : due.PinLaw := by decide +kernel

end Sys2Proof.Tests
end

section
/-! SUPPORT. The reports: LIST, STATUS, READ_COUNTS, FAULT_STATUS and READ_SETTINGS answer from the state and leave it as it
is (R25, R100, R136, R154, R162). -/

namespace Sys2Proof.Machine

/-! ### Commands that answer and leave the state alone -/

/-- A frame in sequence comes from an OPEN session. -/
theorem State.InSequence.isOpen {s : State} {f : Frame} {code : Byte} {c : Client} (h : s.InSequence f code c) :
    (s.session c).opened.isSome = true := by
  obtain ⟨-, -, -, -, hseq⟩ := h
  rw [← Option.isSome_map, hseq, Option.isSome_some]

/-- A command whose body answers and leaves the state alone completes with nothing but the answer written. -/
theorem completes_of_body_keeps {i : Instr} {body : Body} {f : Frame} {c : Client} {code : Byte} {s : State}
    {row : CommandRow} {st : Status} {rs : List Byte} (hin : s.InSequence f code c)
    (hexec : exec i s = .next (frameRow code (accept body) f s)) (hrow : lookupCommand code = some row)
    (hlen : f.params.length = row.length) (hsup : row.supervisor = true → c = 0)
    (hbody : body c f.params s.linkDone = (s.linkDone, { status := st, results := rs })) :
    s.Completes i f c code s.linkDone st rs := by
  rw [State.Completes, hexec, command_result hin hrow hlen hsup hbody hin.isOpen rfl]

/-! ### What each report holds -/

/-- The number of FREE slots, counted in the table (R2, R154). -/
theorem State.freeSlots_length (s : State) :
    s.freeSlots.length = (List.finRange 32).countP fun i => (s.leaseAt i).isNone :=
  List.countP_eq_length_filter.symm

theorem listBody_eq (c : Client) (p : List Byte) (s : State) :
    listBody c p s = (s, .ok ([byte (s.occupied c)] ++
      ((List.finRange 32).filter (s.heldBy c)).flatMap fun i : SlotId => [byte i, (s.slot i).generation])) := rfl

theorem statusBody_eq (c : Client) (p : List Byte) (s : State) :
    statusBody c p s = (s, .ok
      ([s.mode.code] ++ leBytes 4 s.clock.toNat ++ ((List.finRange 8).map fun o => (s.output o).state.code) ++
        [byte ((List.finRange 32).countP fun i => (s.leaseAt i).isNone), byte s.waitQueue.length] ++
        ((List.finRange 4).map fun ch => (s.fault ch).state.code) ++ [(s.session c).notices.zeroExtend 8])) := by
  rw [← s.freeSlots_length]
  rfl

theorem readCountsBody_eq (c : Client) (p : List Byte) (s : State) :
    readCountsBody c p s = (s, .ok
      (leBytes 3 (s.count 0).total.toNat ++ leBytes 3 (s.count 1).total.toNat ++ leBytes 3 (s.count 2).total.toNat ++
        leBytes 3 (s.count 3).total.toNat ++ leBytes 4 s.clock.toNat)) := by
  simp [readCountsBody, tickBytes, List.finRange_succ]

theorem faultStatusBody_eq (c : Client) (p : List Byte) (s : State) :
    faultStatusBody c p s = (s, .ok ((List.finRange 4).flatMap fun ch =>
      [(s.fault ch).state.code, byte (s.fault ch).tripCount, if (s.fault ch).filtered then 0x01 else 0x00])) := rfl

/-! ### READ_SETTINGS, section by section (R162) -/

theorem bitByte_not (b : Bool) : bitByte (!b) = if b then 0x00 else 0x01 := by cases b <;> rfl

theorem State.section_outputs (s : State) :
    s.section 0x00 = some ((List.finRange 8).flatMap fun o =>
      leBytes 3 (s.output o).maxTerm ++ leBytes 2 (s.output o).gap ++ [(s.output o).drive.code]) := rfl

theorem State.section_partners (s : State) :
    s.section 0x01 = some ((List.finRange 8).map fun o => (s.output o).partners) := rfl

theorem State.section_faults (s : State) :
    s.section 0x02 = some ((List.finRange 4).flatMap fun ch =>
      [if (s.fault ch).enabled then 0x01 else 0x00, if (s.fault ch).activeHigh then 0x00 else 0x01,
        byte (s.fault ch).filterSamples, (s.fault ch).cutSet] ++ leBytes 2 (s.fault ch).recoveryDelay ++
        [byte (s.fault ch).latchLimit] ++ leBytes 3 (s.fault ch).quietPeriod) := by
  simp only [← bitByte_not]
  rfl

theorem State.section_counts (s : State) :
    s.section 0x03 = some ((List.finRange 4).flatMap fun ch =>
      [if (s.count ch).enabled then 0x01 else 0x00, (s.count ch).edge.code, (s.count ch).interval.code]) := rfl

theorem State.section_quotas (s : State) :
    s.section 0x04 = some (((List.finRange 8).map fun c => byte (s.session c).quota) ++
      (List.finRange 8).map fun c => byte (s.occupied c)) := rfl

/-- There is no section above 04h. -/
theorem State.section_eq_none (s : State) {b : Byte} (h : 5 ≤ b.toNat) : s.section b = none := by
  have hne : ∀ k : Byte, k.toNat < 5 → b ≠ k := by rintro k hk rfl; omega
  simp [State.section, hne]

theorem readSettingsBody_eq (c : Client) (b : Byte) (s : State) :
    readSettingsBody c [b] s = (s, (s.section b).elim (.refuse .badParameter) .ok) := by
  cases h : s.section b <;> simp [readSettingsBody, h]

/-- READ_SETTINGS completes with the section its byte names, or BAD_PARAMETER where there is none. -/
theorem readSettings_completes {s : State} {f : Frame} {b : Byte} {st : Status} {rs : List Byte}
    (hin : s.InSequence f 0x3B 0) (hp : f.params = [b])
    (hsec : (s.section b).elim (.refuse .badParameter) Reply.ok = { status := st, results := rs }) :
    s.Completes (.readSettings f) f 0 0x3B s.linkDone st rs := by
  have hbody : readSettingsBody 0 f.params s.linkDone = (s.linkDone, { status := st, results := rs }) := by
    rw [hp, readSettingsBody_eq, ← hsec]
    rfl
  exact completes_of_body_keeps hin rfl rfl (by rw [hp]; rfl) (fun _ => rfl) hbody

/-- Settles O31: each body answers from the state and returns it as it was, so the command completes with the answer alone. -/
theorem reportsChangeNothing : Obligations.ReportsChangeNothing := by
  unfold Obligations.ReportsChangeNothing
  refine ⟨⟨?list, ?status⟩, ?counts, ?faults, ?settings⟩
  case list =>
    intro s f c hin hp
    exact completes_of_body_keeps hin rfl rfl (by rw [hp]; rfl) nofun (listBody_eq c _ s.linkDone)
  case status =>
    intro s f c hin hp
    exact completes_of_body_keeps hin rfl rfl (by rw [hp]; rfl) nofun (statusBody_eq c _ s.linkDone)
  case counts =>
    intro s f c hin hp
    exact completes_of_body_keeps hin rfl rfl (by rw [hp]; rfl) nofun (readCountsBody_eq c _ s.linkDone)
  case faults =>
    intro s f hin hp
    exact completes_of_body_keeps hin rfl rfl (by rw [hp]; rfl) (fun _ => rfl) (faultStatusBody_eq 0 _ s.linkDone)
  case settings =>
    intro s f b hin hp
    refine ⟨?above, ?outputs, ?partners, ?channels, ?edges, ?quotas⟩
    case above => exact fun hb => readSettings_completes hin hp (by rw [s.section_eq_none hb]; rfl)
    case outputs => rintro rfl; exact readSettings_completes hin hp (by rw [s.section_outputs]; rfl)
    case partners => rintro rfl; exact readSettings_completes hin hp (by rw [s.section_partners]; rfl)
    case channels => rintro rfl; exact readSettings_completes hin hp (by rw [s.section_faults]; rfl)
    case edges => rintro rfl; exact readSettings_completes hin hp (by rw [s.section_counts]; rfl)
    case quotas => rintro rfl; exact readSettings_completes hin hp (by rw [s.section_quotas]; rfl)

end Sys2Proof.Machine
end

section
/-! SUPPORT. The commands that configure the outputs and the exclusion relation: SET_OUTPUT and SET_EXCLUSION (R45, R46),
over what a supervisor command answers to another client and what a parameter byte reads as. -/

namespace Sys2Proof.Machine

/-! ### Supervisor commands, and commands that leave the sessions alone -/

/-- A supervisor command in sequence from any other client is answered NOT_PERMITTED and changes nothing (R175, step 8). -/
theorem completes_notPermitted {i : Instr} {body : Body} {f : Frame} {c : Client} {code : Byte} {s : State}
    {row : CommandRow} (hin : s.InSequence f code c) (hexec : exec i s = .next (frameRow code (accept body) f s))
    (hrow : lookupCommand code = some row) (hlen : f.params.length = row.length) (hsup : row.supervisor = true)
    (hc : c ≠ 0) : s.Completes i f c code s.linkDone .notPermitted [] := by
  obtain ⟨hhears, hwf, hclient, hepoch, hseq⟩ := hin
  obtain ⟨o, hopen, hnext⟩ := Option.map_eq_some_iff.mp hseq
  have hsender : Fin.ofNat 8 f.client.toNat = c := by rw [hclient, byte_client]; simp
  rw [State.Completes, hexec, frameRow_taken hhears hwf, hsender]
  simp [accept, hopen, hepoch, ← hnext, hrow, hlen, hsup, hc, State.conclude, State.responseTo, Reply.refuse,
    State.withAnswer, Frame.answer, State.putSession]

/-- A command whose body leaves the sessions alone completes with the body's state and answer. -/
theorem completes_of_body {i : Instr} {body : Body} {f : Frame} {c : Client} {code : Byte} {s m : State} {row : CommandRow}
    {st : Status} {rs : List Byte} (hin : s.InSequence f code c)
    (hexec : exec i s = .next (frameRow code (accept body) f s)) (hrow : lookupCommand code = some row)
    (hlen : f.params.length = row.length) (hsup : row.supervisor = true → c = 0)
    (hbody : body c f.params s.linkDone = (m, { status := st, results := rs })) (hm : m.sessions = s.sessions) :
    s.Completes i f c code m st rs := by
  have hses : m.session c = s.session c := by rw [State.session, hm, State.session]
  have hopen : (m.session c).opened.isSome = true := by rw [hses]; exact hin.isOpen
  rw [State.Completes, hexec, command_result hin hrow hlen hsup hbody hopen (by rw [hses])]

/-! ### Parameter bytes -/

@[simp] theorem toOutput_byte (o : OutputId) : toOutput (byte o) = some o := by
  simp only [toOutput, byte_client, o.isLt, dif_pos]

theorem toOutput_eq_none {b : Byte} (h : 8 ≤ b.toNat) : toOutput b = none := dif_neg (by omega)

@[simp] theorem toDrive_code (d : Drive) : toDrive d.code = some d := by cases d <;> rfl

/-- A byte of 02h or more is neither 00h nor 01h. -/
theorem byte_ne_of_two_le {b : Byte} (h : 2 ≤ b.toNat) : b ≠ 0x00 ∧ b ≠ 0x01 := by
  constructor <;> rintro rfl <;> simp at h

@[simp] theorem toFlag_bitByte (p : Bool) : toFlag (bitByte p) = some p := by cases p <;> rfl

theorem toDrive_eq_none {d : Byte} (h : 2 ≤ d.toNat) : toDrive d = none := by
  obtain ⟨h0, h1⟩ := byte_ne_of_two_le h
  rw [toDrive, if_neg h0, if_neg h1]

theorem toFlag_eq_none {b : Byte} (h : 2 ≤ b.toNat) : toFlag b = none := by
  obtain ⟨h0, h1⟩ := byte_ne_of_two_le h
  rw [toFlag, if_neg h0, if_neg h1]

/-! ### SET_OUTPUT (R45) -/

section
variable {c : Client} {b m0 m1 m2 g0 g1 d : Byte} {s : State}

theorem setOutputBody_run {p : List Byte} (h : s.mode = .run) : setOutputBody c p s = (s, .refuse .wrongMode) := if_pos h

theorem setOutputBody_outOfRange (h : s.mode = .setup)
    (hr : 8 ≤ b.toNat ∨ Config.maxTicks < u24 m0 m1 m2 ∨ Config.maxGap < u16 g0 g1 ∨ 2 ≤ d.toNat) :
    setOutputBody c [b, m0, m1, m2, g0, g1, d] s = (s, .refuse .badParameter) := by
  have hcases : 8 ≤ b.toNat ∨ 2 ≤ d.toNat ∨ ¬(u24 m0 m1 m2 ≤ Config.maxTicks ∧ u16 g0 g1 ≤ Config.maxGap) := by omega
  rcases hcases with hb | hd | htime
  · simp [setOutputBody, h, toOutput_eq_none hb]
  · cases ho : toOutput b <;> simp [setOutputBody, h, ho, toDrive_eq_none hd]
  · cases ho : toOutput b <;> cases hdr : toDrive d <;> simp [setOutputBody, h, ho, hdr, htime]

theorem setOutputBody_inRange {o : OutputId} {drive : Drive} (h : s.mode = .setup)
    (hterm : u24 m0 m1 m2 ≤ Config.maxTicks) (hgap : u16 g0 g1 ≤ Config.maxGap) :
    setOutputBody c [byte o, m0, m1, m2, g0, g1, drive.code] s =
      (s.putOutput o { s.output o with maxTerm := u24 m0 m1 m2, gap := u16 g0 g1, drive := drive }, .ok []) := by
  simp [setOutputBody, h, hterm, hgap]

end

/-- SET_OUTPUT from the supervisor completes with what its body answers. -/
theorem setOutput_completes {s m : State} {f : Frame} {st : Status} (hin : s.InSequence f 0x32 0)
    (hlen : f.params.length = 7)
    (hbody : setOutputBody 0 f.params s.linkDone = (m, { status := st, results := [] })) (hm : m.sessions = s.sessions) :
    s.Completes (.setOutput f) f 0 0x32 m st [] :=
  completes_of_body hin rfl rfl hlen (fun _ => rfl) hbody hm

/-- Settles O33: the frame comes from the supervisor or is refused, and the body's three branches give the rest. -/
theorem setOutputWritesTheSettings : Obligations.SetOutputWritesTheSettings := by
  unfold Obligations.SetOutputWritesTheSettings
  intro s f b m0 m1 m2 g0 g1 d hp
  have hlen : f.params.length = 7 := by rw [hp]; rfl
  refine ⟨?other, fun hin => ⟨?run, fun hsetup => ⟨?outOfRange, ?inRange⟩⟩⟩
  case other => exact fun c hc hin => completes_notPermitted hin rfl rfl hlen rfl hc
  case run => exact fun hrun => setOutput_completes hin hlen (setOutputBody_run hrun) rfl
  case outOfRange =>
    intro hr
    exact setOutput_completes hin hlen (hp ▸ setOutputBody_outOfRange hsetup hr) rfl
  case inRange =>
    rintro o drive rfl rfl hterm hgap
    exact setOutput_completes hin hlen (hp ▸ setOutputBody_inRange hsetup hterm hgap) rfl

/-! ### SET_EXCLUSION (R46) -/

/-- The partner sets of two outputs, written one after the other. -/
theorem State.putPartners_putPartners (s : State) {x y : OutputId} (hxy : x ≠ y) (P Q : OutputSet) :
    (s.putPartners x P).putPartners y Q =
      { s with
        outputs := (s.outputs.set x { s.output x with partners := P }).set y { s.output y with partners := Q } } := by
  have hy : (s.putPartners x P).output y = s.output y := by rw [State.output_putPartners, if_neg hxy]
  rw [State.putPartners, hy]
  rfl

/-- Setting a pair adds each output to the other's partners (R46). -/
theorem State.setPair_true (s : State) {x y : OutputId} (hxy : x ≠ y) :
    s.setPair x y true =
      { s with
        outputs := (s.outputs.set x { s.output x with partners := (s.output x).partners ||| BitVec.twoPow 8 y }).set y
          { s.output y with partners := (s.output y).partners ||| BitVec.twoPow 8 x } } := by
  simp [State.setPair, oneOutput, hxy, s.putPartners_putPartners hxy]

/-- Clearing a pair removes each output from the other's partners (R46). -/
theorem State.setPair_false (s : State) {x y : OutputId} (hxy : x ≠ y) :
    s.setPair x y false =
      { s with
        outputs := (s.outputs.set x { s.output x with partners := (s.output x).partners &&& ~~~(BitVec.twoPow 8 y) }).set y
          { s.output y with partners := (s.output y).partners &&& ~~~(BitVec.twoPow 8 x) } } := by
  simp [State.setPair, oneOutput, hxy, s.putPartners_putPartners hxy]

section
variable {c : Client} {a b flag : Byte} {s : State}

theorem setExclusionBody_run {p : List Byte} (h : s.mode = .run) :
    setExclusionBody c p s = (s, .refuse .wrongMode) := if_pos h

theorem setExclusionBody_outOfRange (h : s.mode = .setup)
    (hr : 8 ≤ a.toNat ∨ 8 ≤ b.toNat ∨ a = b ∨ 2 ≤ flag.toNat) :
    setExclusionBody c [a, b, flag] s = (s, .refuse .badParameter) := by
  rcases hr with ha | hb | rfl | hflag
  · simp [setExclusionBody, h, toOutput_eq_none ha]
  · cases ha : toOutput a <;> simp [setExclusionBody, h, ha, toOutput_eq_none hb]
  · cases ha : toOutput a <;> cases hf : toFlag flag <;> simp [setExclusionBody, h, ha, hf]
  · cases ha : toOutput a <;> cases hb : toOutput b <;> simp [setExclusionBody, h, ha, hb, toFlag_eq_none hflag]

theorem setExclusionBody_inRange {x y : OutputId} (h : s.mode = .setup) (hxy : x ≠ y) (present : Bool) :
    setExclusionBody c [byte x, byte y, bitByte present] s = (s.setPair x y present, .ok []) := by
  simp [setExclusionBody, h, hxy]

end

/-- SET_EXCLUSION from the supervisor completes with what its body answers. -/
theorem setExclusion_completes {s m : State} {f : Frame} {st : Status} (hin : s.InSequence f 0x33 0)
    (hlen : f.params.length = 3)
    (hbody : setExclusionBody 0 f.params s.linkDone = (m, { status := st, results := [] })) (hm : m.sessions = s.sessions) :
    s.Completes (.setExclusion f) f 0 0x33 m st [] :=
  completes_of_body hin rfl rfl hlen (fun _ => rfl) hbody hm

/-- The lease of a slot that holds an output is live (R9, R29). -/
theorem State.liveAt_of_slotHolds {s : State} {o : OutputId} {i : SlotId} (h : s.slotHolds o i = true) :
    s.liveAt i = true := by
  cases hl : s.leaseAt i with
  | none => simp [State.slotHolds, hl] at h
  | some l =>
    simp only [State.slotHolds, hl, Lease.holds, Bool.and_eq_true] at h
    simpa only [State.liveAt, hl] using h.1

/-- In SETUP no slot is live (R155), so no output is held, and none is ON (R31). -/
theorem State.output_ne_on_of_setup {s : State} (hsetup : s.mode = .setup) (hq : s.QueueLaw) (ho : s.OutputLaw)
    (o : OutputId) : (s.output o).state ≠ .on := by
  obtain ⟨-, -, -, hempty⟩ := hq
  intro hon
  have hheld : s.held o = true := (ho o).1.mp hon
  obtain ⟨i, -, hi⟩ := List.any_eq_true.mp hheld
  simpa [(hempty hsetup i).2] using State.liveAt_of_slotHolds hi

/-- Settles O34: the frame comes from the supervisor or is refused; a pair in range is written by two writes of partner sets,
which do not meet since the outputs differ. -/
theorem setExclusionWritesThePair : Obligations.SetExclusionWritesThePair := by
  unfold Obligations.SetExclusionWritesThePair
  intro s f a b flag hp
  have hlen : f.params.length = 3 := by rw [hp]; rfl
  refine ⟨?other, State.output_ne_on_of_setup, fun hin => ⟨?run, fun hsetup => ⟨?outOfRange, ?inRange⟩⟩⟩
  case other => exact fun c hc hin => completes_notPermitted hin rfl rfl hlen rfl hc
  case run => exact fun hrun => setExclusion_completes hin hlen (setExclusionBody_run hrun) rfl
  case outOfRange =>
    intro hr
    exact setExclusion_completes hin hlen (hp ▸ setExclusionBody_outOfRange hsetup hr) rfl
  case inRange =>
    rintro x y rfl rfl hxy
    refine ⟨?set, ?clear⟩
    case set =>
      rintro rfl
      have hbody := setExclusionBody_inRange (c := 0) (s := s.linkDone) hsetup hxy true
      rw [s.linkDone.setPair_true hxy] at hbody
      exact setExclusion_completes hin hlen (hp ▸ hbody) rfl
    case clear =>
      rintro rfl
      have hbody := setExclusionBody_inRange (c := 0) (s := s.linkDone) hsetup hxy false
      rw [s.linkDone.setPair_false hxy] at hbody
      exact setExclusion_completes hin hlen (hp ▸ hbody) rfl

end Sys2Proof.Machine
end

section
/-! SUPPORT. The command that configures the count channels: SET_COUNT (R98), over what each of its parameter bytes reads
as. -/

namespace Sys2Proof.Machine

/-! ### Parameter bytes of SET_COUNT -/

@[simp] theorem toCount_byte (ch : CountId) : toCount (byte ch) = some ch := by
  have hbyte : (byte ch).toNat = ch := byte_client (ch.castLE (by decide))
  simp only [toCount, hbyte, ch.isLt, dif_pos]

theorem toCount_eq_none {b : Byte} (h : 4 ≤ b.toNat) : toCount b = none := dif_neg (by omega)

@[simp] theorem toEdge_code (e : Edge) : toEdge e.code = some e := by cases e <;> rfl

theorem toEdge_eq_none {b : Byte} (h : 3 ≤ b.toNat) : toEdge b = none := by
  obtain ⟨h0, h1⟩ := byte_ne_of_two_le (b := b) (by omega)
  have h2 : b ≠ 0x02 := by rintro rfl; simp at h
  rw [toEdge, if_neg h0, if_neg h1, if_neg h2]

@[simp] theorem toInterval_code (iv : Interval) : toInterval iv.code = some iv := by cases iv <;> rfl

theorem toInterval_eq_none {b : Byte} (h : 4 ≤ b.toNat) : toInterval b = none := by
  obtain ⟨h0, h1⟩ := byte_ne_of_two_le (b := b) (by omega)
  have h2 : b ≠ 0x02 := by rintro rfl; simp at h
  have h3 : b ≠ 0x03 := by rintro rfl; simp at h
  rw [toInterval, if_neg h0, if_neg h1, if_neg h2, if_neg h3]

/-! ### SET_COUNT (R98) -/

section
variable {c : Client} {b en ed iv : Byte} {s : State}

theorem setCountBody_run {p : List Byte} (h : s.mode = .run) : setCountBody c p s = (s, .refuse .wrongMode) := if_pos h

theorem setCountBody_outOfRange (h : s.mode = .setup)
    (hr : 4 ≤ b.toNat ∨ 2 ≤ en.toNat ∨ 3 ≤ ed.toNat ∨ 4 ≤ iv.toNat) :
    setCountBody c [b, en, ed, iv] s = (s, .refuse .badParameter) := by
  have hnone : toCount b = none ∨ toFlag en = none ∨ toEdge ed = none ∨ toInterval iv = none :=
    hr.imp toCount_eq_none (.imp toFlag_eq_none (.imp toEdge_eq_none toInterval_eq_none))
  simp only [setCountBody, h, reduceCtorEq, if_false]
  split
  next hch hflag hedge hinterval => simp [hch, hflag, hedge, hinterval] at hnone
  next => rfl

theorem setCountBody_inRange (h : s.mode = .setup) (ch : CountId) (on : Bool) (edge : Edge) (interval : Interval) :
    setCountBody c [byte ch, bitByte on, edge.code, interval.code] s =
      (s.putCount ch ⟨on, edge, interval, false, false, 0⟩, .ok []) := by
  simp [setCountBody, h]

end

/-- SET_COUNT from the supervisor completes with what its body answers. -/
theorem setCount_completes {s m : State} {f : Frame} {st : Status} (hin : s.InSequence f 0x35 0)
    (hlen : f.params.length = 4)
    (hbody : setCountBody 0 f.params s.linkDone = (m, { status := st, results := [] })) (hm : m.sessions = s.sessions) :
    s.Completes (.setCount f) f 0 0x35 m st [] :=
  completes_of_body hin rfl rfl hlen (fun _ => rfl) hbody hm

/-- Settles O42: the frame comes from the supervisor or is refused, and in SETUP the body refuses parameters that do not all
read or writes the channel's record anew. -/
theorem setCountRestartsTheChannel : Obligations.SetCountRestartsTheChannel := by
  unfold Obligations.SetCountRestartsTheChannel
  intro s f b en ed iv hp
  have hlen : f.params.length = 4 := by rw [hp]; rfl
  refine ⟨?other, fun hin => ⟨?run, fun hsetup => ⟨?outOfRange, ?inRange⟩⟩⟩
  case other => exact fun c hc hin => completes_notPermitted hin rfl rfl hlen rfl hc
  case run => exact fun hrun => setCount_completes hin hlen (setCountBody_run hrun) rfl
  case outOfRange =>
    intro hr
    exact setCount_completes hin hlen (hp ▸ setCountBody_outOfRange hsetup hr) rfl
  case inRange =>
    rintro ch on edge interval rfl rfl rfl rfl
    have hbody := setCountBody_inRange (c := 0) (s := s.linkDone) hsetup ch on edge interval
    exact setCount_completes hin hlen (hp ▸ hbody) rfl

end Sys2Proof.Machine
end

section
/-! SUPPORT. The expiry queue under insertion (R75, R76): where an inserted entry stands, that the order of ticks remaining is
kept, and how insertion and the removal of other entries pass each other. -/

namespace Sys2Proof.Machine

/-- A queue in the order of ticks remaining (R75). -/
abbrev InTickOrder (now : Tick) (q : List Entry) : Prop :=
  q.Pairwise fun a b => remaining now a.deadline ≤ remaining now b.deadline

/-- An entry ahead of all others in deadline is inserted at the front. -/
theorem insertEntry_front {now : Tick} {e : Entry} {q : List Entry}
    (h : ∀ x ∈ q, remaining now e.deadline < remaining now x.deadline) : insertEntry now e q = e :: q := by
  cases q with
  | nil => rfl
  | cons x q =>
    have hx : ¬remaining now x.deadline ≤ remaining now e.deadline := by
      have := h x List.mem_cons_self
      omega
    rw [insertEntry, if_neg hx]

/-- In an ordered queue every entry behind one that is later than `e` is later than `e` too. -/
theorem later_of_head {now : Tick} {e x : Entry} {q : List Entry} (hq : InTickOrder now (x :: q))
    (hx : ¬remaining now x.deadline ≤ remaining now e.deadline) :
    ∀ y ∈ x :: q, remaining now e.deadline < remaining now y.deadline := by
  intro y hy
  rcases List.mem_cons.mp hy with rfl | hy
  · omega
  · have := List.rel_of_pairwise_cons hq hy
    omega

/-- Insertion into an ordered queue cuts it at the new entry's place (R76). -/
theorem insertEntry_eq_split {now : Tick} {q : List Entry} (e : Entry) (hq : InTickOrder now q) :
    insertEntry now e q =
      (q.filter fun x => remaining now x.deadline ≤ remaining now e.deadline) ++
        e :: (q.filter fun x => remaining now e.deadline < remaining now x.deadline) := by
  induction q with
  | nil => rfl
  | cons x q ih =>
    by_cases hx : remaining now x.deadline ≤ remaining now e.deadline
    · rw [insertEntry, if_pos hx, ih hq.of_cons]
      simp [hx, Nat.not_lt.mpr hx]
    · have hlater := later_of_head hq hx
      rw [insertEntry_front hlater, List.filter_eq_nil_iff.mpr (by simpa using hlater),
        List.filter_eq_self.mpr (by simpa using hlater)]
      rfl

theorem insertEntry_inTickOrder {now : Tick} {q : List Entry} (e : Entry) (hq : InTickOrder now q) :
    InTickOrder now (insertEntry now e q) := by
  induction q with
  | nil => exact List.pairwise_singleton _ _
  | cons x q ih =>
    by_cases hx : remaining now x.deadline ≤ remaining now e.deadline
    · rw [insertEntry, if_pos hx]
      refine List.pairwise_cons.mpr ⟨fun y hy => ?_, ih hq.of_cons⟩
      rcases mem_insertEntry.mp hy with rfl | hy
      · exact hx
      · exact List.rel_of_pairwise_cons hq hy
    · have hlater := later_of_head hq hx
      rw [insertEntry_front hlater]
      exact List.pairwise_cons.mpr ⟨fun y hy => (hlater y hy).le, hq⟩

/-- Settles O35: in an ordered queue the new entry's place is the cut between the earlier or equal entries and the later ones. -/
theorem insertionKeepsTheOrder : Obligations.InsertionKeepsTheOrder := by
  unfold Obligations.InsertionKeepsTheOrder
  exact fun now e q hq => ⟨insertEntry_eq_split e hq, insertEntry_inTickOrder e hq⟩

/-- Removing entries other than the new one may come before or after its insertion (R76). -/
theorem filter_insertEntry {now : Tick} {q : List Entry} {e : Entry} (hq : InTickOrder now q) {p : Entry → Bool}
    (he : p e = true) : (insertEntry now e q).filter p = insertEntry now e (q.filter p) := by
  induction q with
  | nil => simp [insertEntry, he]
  | cons x q ih =>
    by_cases hx : remaining now x.deadline ≤ remaining now e.deadline
    · cases hp : p x <;> simp [insertEntry, hx, hp, ih hq.of_cons]
    · have hlater := later_of_head hq hx
      rw [insertEntry_front hlater, insertEntry_front fun y hy => hlater y (List.mem_of_mem_filter hy),
        List.filter_cons_of_pos he]

/-- Removing the new entry again leaves what was there. -/
theorem filter_insertEntry_of_neg {now : Tick} {e : Entry} {p : Entry → Bool} (he : p e = false) (q : List Entry) :
    (insertEntry now e q).filter p = q.filter p := by
  induction q with
  | nil => simp [insertEntry, he]
  | cons x q ih => unfold insertEntry; split <;> simp [List.filter_cons, ih, he]

@[simp] theorem mem_removeEntry {k : Key} {e : Entry} {q : List Entry} : e ∈ removeEntry k q ↔ e ∈ q ∧ e.key ≠ k := by
  simp [removeEntry]

end Sys2Proof.Machine
end

section
/-! SUPPORT. The output stage (R31 to R33, R37): what one recomputed output becomes, and what a set of them does to states,
lines and SETTLE entries. -/

namespace Sys2Proof.Machine

/-! ### One output -/

/-- Recomputing output `o` takes it from SETTLE to ON (R32). -/
def State.risesFromSettle (s : State) (o : OutputId) : Bool := (s.output o).state == .settle && s.held o

/-- Recomputing output `o` takes it from ON to SETTLE (R33). -/
def State.fallsToSettle (s : State) (o : OutputId) : Bool :=
  (s.output o).state == .on && (s.output o).follow (s.held o) == .settle

/-- The SETTLE entry of an output that falls (R33). -/
def State.settleEntry (s : State) (o : OutputId) : Entry := ⟨s.after (s.output o).gap, .settle o⟩

/-- The output record after it has followed its holders. -/
def State.followed (s : State) (o : OutputId) : Output :=
  { s.output o with state := (s.output o).follow (s.held o) }

/-- The expiry queue once output `o` has followed its holders. -/
def State.settleQueue (s : State) (o : OutputId) : List Entry :=
  if s.risesFromSettle o then removeEntry (.settle o) s.expiry
  else if s.fallsToSettle o then insertEntry s.clock (s.settleEntry o) s.expiry
  else s.expiry

/-- The line of an output moves only as its state does. -/
theorem State.recompute_eq (s : State) (o : OutputId) :
    s.recompute o =
      if (s.followed o).state = (s.output o).state then s
      else { s.putOutput o (s.followed o) with expiry := s.settleQueue o } := by
  unfold State.recompute State.settleQueue State.risesFromSettle State.fallsToSettle State.followed
  dsimp only
  split
  next hs hh =>
    by_cases hg : 0 < (s.output o).gap ∧ (s.output o).partners ≠ 0
    · simp only [Output.follow, hs, hh, if_pos hg, Bool.false_eq_true, if_false]
      rfl
    · simp only [Output.follow, hs, hh, if_neg hg, Bool.false_eq_true, if_false]
      rfl
  next hs hh => simp [Output.follow, hs, hh]; rfl
  next hs hh => simp [Output.follow, hs, hh]; rfl
  next h1 h2 h3 =>
    cases hs : (s.output o).state <;> cases hh : s.held o <;> simp_all [Output.follow]

theorem State.output_recompute (s : State) (o p : OutputId) :
    (s.recompute o).output p = if o = p then s.followed p else s.output p := by
  rw [State.recompute_eq]
  split
  next h =>
    split
    · subst o; simp only [State.followed] at h ⊢; rw [h]
    · rfl
  next => exact s.output_putOutput o p (s.followed o) |>.trans (by split <;> simp_all)

theorem State.gLine_recompute (s : State) (o p : OutputId) :
    (s.recompute o).gLines[p] =
      if o = p ∧ (s.followed p).state ≠ (s.output p).state then (s.followed p).line else s.gLines[p] := by
  rw [State.recompute_eq]
  have hput : (s.putOutput o (s.followed o)).gLines[p] = if o = p then (s.followed o).line else s.gLines[p] :=
    s.gLine_putOutput o p _
  by_cases hp : o = p
  · subst hp
    split <;> simp_all
  · split <;> simp_all

theorem State.expiry_recompute (s : State) (o : OutputId) : (s.recompute o).expiry = s.settleQueue o := by
  rw [State.recompute_eq]
  split
  next h =>
    unfold State.settleQueue State.risesFromSettle State.fallsToSettle
    cases hs : (s.output o).state <;> cases hh : s.held o <;> simp_all [State.followed, Output.follow]
  next => rfl

theorem State.held_recompute (s : State) (o p : OutputId) : (s.recompute o).held p = s.held p :=
  State.held_congr (recompute_slots s o) p

@[simp] theorem State.clock_recompute (s : State) (o : OutputId) : (s.recompute o).clock = s.clock :=
  (recompute_spares s o).clock

theorem State.mem_settleQueue {s : State} {o : OutputId} {e : Entry} :
    e ∈ s.settleQueue o ↔
      (e ∈ s.expiry ∧ ¬(e.key = .settle o ∧ s.risesFromSettle o = true)) ∨
        (s.fallsToSettle o = true ∧ e = s.settleEntry o) := by
  unfold State.settleQueue
  have hexcl : s.risesFromSettle o = true → s.fallsToSettle o = false := by
    simp +contextual [State.risesFromSettle, State.fallsToSettle]
  split
  next h => simp [h, hexcl h]
  next h =>
    split
    next hf => simp [h, hf, or_comm]
    next hf => simp [h, hf]

theorem State.inOrder_recompute {s : State} (o : OutputId) (h : s.InOrder) : (s.recompute o).InOrder := by
  simp only [State.InOrder, State.expiry_recompute, State.clock_recompute]
  unfold State.settleQueue
  split
  · exact h.filter _
  · split
    · exact insertEntry_inTickOrder _ h
    · exact h

/-! ### A list of outputs, each once -/

theorem mem_members {S : OutputSet} {o : OutputId} : o ∈ members S ↔ S.getLsbD o = true := by simp [members]

theorem members_nodup (S : OutputSet) : (members S).Nodup := (List.nodup_finRange 8).filter _

/-- What the other outputs see of a recomputed one: their record, holders and falls are as before. -/
theorem State.followed_recompute {s : State} {o p : OutputId} (h : o ≠ p) :
    (s.recompute o).followed p = s.followed p ∧ (s.recompute o).risesFromSettle p = s.risesFromSettle p ∧
      (s.recompute o).fallsToSettle p = s.fallsToSettle p ∧ (s.recompute o).settleEntry p = s.settleEntry p := by
  simp [State.followed, State.risesFromSettle, State.fallsToSettle, State.settleEntry, State.after, s.output_recompute, h,
    s.held_recompute]

section
variable {L : List OutputId}

theorem output_foldl_recompute (hL : L.Nodup) (s : State) (p : OutputId) :
    (L.foldl State.recompute s).output p = if p ∈ L then s.followed p else s.output p := by
  induction L generalizing s with
  | nil => simp
  | cons o L ih =>
    obtain ⟨ho, hL⟩ := List.nodup_cons.mp hL
    rw [List.foldl_cons, ih hL, s.output_recompute]
    by_cases hp : o = p
    · subst hp; simp [ho]
    · simp [hp, Ne.symm hp, (State.followed_recompute hp).1]

theorem gLine_foldl_recompute (hL : L.Nodup) (s : State) (p : OutputId) :
    (L.foldl State.recompute s).gLines[p] =
      if p ∈ L ∧ (s.followed p).state ≠ (s.output p).state then (s.followed p).line else s.gLines[p] := by
  induction L generalizing s with
  | nil => simp
  | cons o L ih =>
    obtain ⟨ho, hL⟩ := List.nodup_cons.mp hL
    rw [List.foldl_cons, ih hL, s.gLine_recompute]
    by_cases hp : o = p
    · subst hp; simp [ho]
    · simp [hp, Ne.symm hp, s.output_recompute, (State.followed_recompute hp).1]

theorem mem_expiry_foldl_recompute (hL : L.Nodup) (s : State) (e : Entry) :
    e ∈ (L.foldl State.recompute s).expiry ↔
      (e ∈ s.expiry ∧ ¬∃ o ∈ L, e.key = .settle o ∧ s.risesFromSettle o = true) ∨
        ∃ o ∈ L, s.fallsToSettle o = true ∧ e = s.settleEntry o := by
  induction L generalizing s with
  | nil => simp
  | cons o L ih =>
    obtain ⟨ho, hL⟩ := List.nodup_cons.mp hL
    have hne : ∀ p ∈ L, o ≠ p := by rintro p hp rfl; exact ho hp
    have hrise : (∃ p ∈ L, e.key = .settle p ∧ (s.recompute o).risesFromSettle p = true) ↔
        ∃ p ∈ L, e.key = .settle p ∧ s.risesFromSettle p = true :=
      exists_congr fun p => and_congr_right fun hp => by rw [(State.followed_recompute (hne p hp)).2.1]
    have hfall : (∃ p ∈ L, (s.recompute o).fallsToSettle p = true ∧ e = (s.recompute o).settleEntry p) ↔
        ∃ p ∈ L, s.fallsToSettle p = true ∧ e = s.settleEntry p :=
      exists_congr fun p => and_congr_right fun hp => by
        rw [(State.followed_recompute (hne p hp)).2.2.1, (State.followed_recompute (hne p hp)).2.2.2]
    have hown : s.fallsToSettle o = true ∧ e = s.settleEntry o →
        ¬∃ p ∈ L, e.key = .settle p ∧ s.risesFromSettle p = true := by
      rintro ⟨-, rfl⟩ ⟨p, hp, hk, -⟩
      exact hne p hp (by simpa [State.settleEntry] using hk)
    rw [List.foldl_cons, ih hL, hrise, hfall, State.expiry_recompute, State.mem_settleQueue]
    simp only [List.mem_cons, exists_eq_or_imp]
    rw [or_and_right, and_iff_left_of_imp hown, not_or, and_assoc, or_assoc]

theorem expiry_foldl_recompute (hL : L.Nodup) {s : State} (h : s.InOrder) :
    (L.foldl State.recompute s).expiry =
      (L.filter s.fallsToSettle).foldl (fun q o => insertEntry s.clock (s.settleEntry o) q)
        (s.expiry.filter fun e => !L.any fun o => e.key == .settle o && s.risesFromSettle o) := by
  induction L generalizing s with
  | nil => simp
  | cons o L ih =>
    obtain ⟨ho, hL⟩ := List.nodup_cons.mp hL
    have hne : ∀ p ∈ L, o ≠ p := by rintro p hp rfl; exact ho hp
    have hfalls : L.filter (s.recompute o).fallsToSettle = L.filter s.fallsToSettle :=
      List.filter_congr fun p hp => (State.followed_recompute (hne p hp)).2.2.1
    have hentry : ∀ q, (L.filter s.fallsToSettle).foldl
          (fun q p => insertEntry (s.recompute o).clock ((s.recompute o).settleEntry p) q) q =
        (L.filter s.fallsToSettle).foldl (fun q p => insertEntry s.clock (s.settleEntry p) q) q := fun q =>
      List.foldl_ext _ _ _ fun a p hp => by
        rw [(State.followed_recompute (hne p (List.mem_of_mem_filter hp))).2.2.2, s.clock_recompute]
    have hrises : ∀ e : Entry, (L.any fun p => e.key == .settle p && (s.recompute o).risesFromSettle p) =
        L.any fun p => e.key == .settle p && s.risesFromSettle p := fun e => by
      rw [Bool.eq_iff_iff]
      simp only [List.any_eq_true]
      exact exists_congr fun p => and_congr_right fun hp => by rw [(State.followed_recompute (hne p hp)).2.1]
    have hown : (L.any fun p => (s.settleEntry o).key == .settle p && s.risesFromSettle p) = false := by
      simp only [List.any_eq_false, State.settleEntry, Bool.and_eq_true, beq_iff_eq, Key.settle.injEq, not_and]
      exact fun p hp hop => absurd hop (hne p hp)
    rw [List.foldl_cons, ih hL (s.inOrder_recompute o h), hfalls, hentry, State.expiry_recompute]
    simp only [hrises]
    unfold State.settleQueue
    by_cases hr : s.risesFromSettle o = true
    · have hf : s.fallsToSettle o = false := by
        simp only [State.risesFromSettle, Bool.and_eq_true, beq_iff_eq] at hr
        simp [State.fallsToSettle, hr.1]
      rw [if_pos hr, List.filter_cons_of_neg (by simp [hf]), removeEntry, List.filter_filter]
      congr 2
      funext e
      by_cases he : e.key = .settle o <;> simp [hr, he]
    · rw [if_neg hr]
      by_cases hf : s.fallsToSettle o = true
      · rw [if_pos hf, List.filter_cons_of_pos hf, List.foldl_cons,
          filter_insertEntry h (by rw [hown]; rfl)]
        simp [hr]
      · rw [if_neg hf, List.filter_cons_of_neg hf]
        simp [hr]

end

/-! ### A set of outputs -/

theorem State.held_recomputeAll (s : State) (S : OutputSet) (o : OutputId) : (s.recomputeAll S).held o = s.held o :=
  State.held_congr (recomputeAll_slots s S) o

theorem State.output_recomputeAll (s : State) (S : OutputSet) (o : OutputId) :
    (s.recomputeAll S).output o =
      { s.output o with state := if S.getLsbD o then (s.output o).follow (s.held o) else (s.output o).state } := by
  rw [State.recomputeAll, output_foldl_recompute (members_nodup S)]
  simp only [mem_members, State.followed]
  split <;> rfl

theorem State.gLine_recomputeAll (s : State) (S : OutputSet) (o : OutputId) :
    (s.recomputeAll S).gLines[o] =
      if ((s.recomputeAll S).output o).state = (s.output o).state then s.gLines[o]
      else ((s.recomputeAll S).output o).line := by
  rw [s.output_recomputeAll, State.recomputeAll, gLine_foldl_recompute (members_nodup S)]
  simp only [mem_members, State.followed]
  cases hS : S.getLsbD o <;> simp

theorem State.inOrder_recomputeAll {s : State} (S : OutputSet) (h : s.InOrder) : (s.recomputeAll S).InOrder := by
  unfold State.recomputeAll
  generalize members S = L
  induction L generalizing s with
  | nil => exact h
  | cons o L ih => exact ih (s.inOrder_recompute o h)

/-- The rise and the fall of an output of the set, as its states before and after show them. -/
theorem State.riseEntry_recomputeAll (s : State) (S : OutputSet) (e : Entry) :
    s.riseEntry (s.recomputeAll S) e =
      (members S).any fun o => e.key == .settle o && s.risesFromSettle o := by
  rw [State.riseEntry, Bool.eq_iff_iff, List.any_eq_true, List.any_eq_true]
  refine exists_congr fun o => ?_
  rw [s.output_recomputeAll, mem_members]
  cases hS : S.getLsbD o <;> cases hs : (s.output o).state <;> cases hh : s.held o <;>
    simp [State.risesFromSettle, hs, hh, Output.follow]

theorem State.falls_recomputeAll (s : State) (S : OutputSet) :
    s.falls (s.recomputeAll S) = (members S).filter s.fallsToSettle := by
  rw [State.falls, members, List.filter_filter]
  refine List.filter_congr fun o _ => ?_
  rw [s.output_recomputeAll]
  cases hS : S.getLsbD o <;> cases hs : (s.output o).state <;> simp [State.fallsToSettle, hs]

theorem State.expiry_recomputeAll {s : State} (S : OutputSet) (h : s.InOrder) :
    (s.recomputeAll S).expiry = s.expiryFollow (s.recomputeAll S) s.expiry := by
  simp only [State.expiryFollow, s.falls_recomputeAll, s.riseEntry_recomputeAll]
  exact expiry_foldl_recompute (members_nodup S) h

theorem State.mem_expiry_recomputeAll {s : State} {S : OutputSet} {e : Entry} :
    e ∈ (s.recomputeAll S).expiry ↔
      (e ∈ s.expiry ∧ ¬∃ o : OutputId, S.getLsbD o = true ∧ e.key = .settle o ∧ s.risesFromSettle o = true) ∨
        ∃ o : OutputId, S.getLsbD o = true ∧ s.fallsToSettle o = true ∧ e = s.settleEntry o := by
  rw [State.recomputeAll, mem_expiry_foldl_recompute (members_nodup S)]
  simp only [mem_members]

theorem State.mem_settle_recomputeAll (s : State) (S : OutputSet) (o : OutputId) (e : Entry) (he : e.key = .settle o) :
    e ∈ (s.recomputeAll S).expiry ↔
      (e ∈ s.expiry ∧ ¬((s.output o).state = .settle ∧ ((s.recomputeAll S).output o).state = .on)) ∨
        ((s.output o).state = .on ∧ ((s.recomputeAll S).output o).state = .settle ∧
          e.deadline = s.clock + BitVec.ofNat 32 (s.output o).gap) := by
  rw [State.mem_expiry_recomputeAll, s.output_recomputeAll]
  have hrise : (∃ p : OutputId, S.getLsbD p = true ∧ e.key = .settle p ∧ s.risesFromSettle p = true) ↔
      S.getLsbD o = true ∧ s.risesFromSettle o = true := by
    simp only [he, Key.settle.injEq]
    exact ⟨by rintro ⟨p, hS, rfl, hr⟩; exact ⟨hS, hr⟩, fun ⟨hS, hr⟩ => ⟨o, hS, rfl, hr⟩⟩
  have hfall : (∃ p : OutputId, S.getLsbD p = true ∧ s.fallsToSettle p = true ∧ e = s.settleEntry p) ↔
      S.getLsbD o = true ∧ s.fallsToSettle o = true ∧ e.deadline = s.clock + BitVec.ofNat 32 (s.output o).gap := by
    constructor
    · rintro ⟨p, hS, hf, rfl⟩
      obtain rfl : p = o := by simpa [State.settleEntry] using he
      exact ⟨hS, hf, rfl⟩
    · rintro ⟨hS, hf, hd⟩
      exact ⟨o, hS, hf, by cases e; simp_all [State.settleEntry, State.after]⟩
  rw [hrise, hfall]
  cases hS : S.getLsbD o <;> cases hs : (s.output o).state <;> cases hh : s.held o <;>
    simp [State.risesFromSettle, State.fallsToSettle, hs, hh, Output.follow]

theorem State.mem_recomputeAll_of_not_settle (s : State) (S : OutputSet) {e : Entry} (he : e.key.isSettle = false) :
    e ∈ (s.recomputeAll S).expiry ↔ e ∈ s.expiry := by
  have hne : ∀ o, e.key ≠ .settle o := by intro o h; simp [h, Key.isSettle] at he
  have hne' : ∀ o, e ≠ s.settleEntry o := fun o h => hne o (congrArg Entry.key h)
  simp [State.mem_expiry_recomputeAll, hne, hne']

theorem outputsFollow_recomputeAll (s : State) (S : OutputSet) : OutputsFollow s (s.recomputeAll S) S where
  outputs o := by rw [s.output_recomputeAll, s.held_recomputeAll]
  lines o := s.gLine_recomputeAll S o
  settles o e he := s.mem_settle_recomputeAll S o e he

/-- Settles O32: each output of the set is recomputed once, without regard to the others, so the fold over the set acts on
each of them by one recomputation. -/
theorem outputsFollowTheirHolders : Obligations.OutputsFollowTheirHolders := by
  unfold Obligations.OutputsFollowTheirHolders
  intro s S
  exact ⟨outputsFollow_recomputeAll s S, recomputeAll_spares s S, recomputeAll_slots s S, recomputeAll_sessions s S,
    recomputeAll_waitQueue s S, recomputeAll_atnLow s S, State.expiry_recomputeAll S,
    fun e he => s.mem_recomputeAll_of_not_settle S he⟩

end Sys2Proof.Machine
end

section
/-! SUPPORT. Notices and the ends of a lease: what a notice changes (R150, R152), and what freeing a slot (R16) and ending a
lease (R11, R12) change, both by way of one operation that closes a slot and lets its outputs follow. -/

namespace Sys2Proof.Machine

/-! ### Notices -/

theorem State.session_congr {s t : State} (h : t.sessions = s.sessions) (c : Client) : t.session c = s.session c := by
  rw [State.session, h, State.session]

theorem State.isOpen_congr {s t : State} (h : t.sessions = s.sessions) (c : Client) : t.isOpen c = s.isOpen c := by
  rw [State.isOpen, State.session_congr h, State.isOpen]

theorem State.attention_congr {s t : State} (h : t.sessions = s.sessions) : t.attention = s.attention := by
  have : (fun c => (t.session c).calls) = fun c => (s.session c).calls := funext fun c => by rw [State.session_congr h]
  rw [State.attention, this, State.attention]

/-- A notice reaches the session it is for, and only while that is OPEN (R150). -/
theorem State.session_notify (s : State) (c d : Client) (k : Notice) :
    (s.notify c k).session d =
      if d = c ∧ s.isOpen c = true then { s.session c with notices := (s.session c).notices ||| k.bit }
      else s.session d := by
  unfold State.notify
  by_cases hc : s.isOpen c = true
  · have hput := s.session_putSession c d { s.session c with notices := (s.session c).notices ||| k.bit }
    rw [if_pos hc]
    refine hput.trans ?_
    by_cases hd : d = c
    · simp [hd, hc]
    · simp [hd, Ne.symm hd]
  · rw [if_neg hc, if_neg (by simp [hc])]

theorem State.isOpen_notify (s : State) (c d : Client) (k : Notice) : (s.notify c k).isOpen d = s.isOpen d := by
  rw [State.isOpen, State.isOpen, (notify_spares s c k).opened]

theorem State.isOpen_setOutcome (s : State) (c d : Client) (h : Handle) (o : Outcome) :
    (s.setOutcome c h o).isOpen d = s.isOpen d := by
  rw [State.isOpen, State.isOpen, (setOutcome_spares s c h o).opened]

/-- Latching a notice brings ATN up to date (R152). -/
theorem State.atnLow_notify (s : State) (c : Client) (k : Notice) :
    (s.notify c k).atnLow = if s.isOpen c = true then (s.notify c k).attention else s.atnLow := by
  by_cases hc : s.isOpen c = true
  · rw [if_pos hc, State.notify, if_pos hc]
    exact (State.attention_congr rfl).symm
  · rw [if_neg hc, State.notify, if_neg hc]

/-! ### The outputs that follow, seen through updates that leave them alone -/

/-- `OutputsFollow` reads the outputs, the lines, the lease table and the expiry queue of the later state. -/
theorem OutputsFollow.of_eq {s t u : State} {S : OutputSet} (h : OutputsFollow s t S) (ho : u.outputs = t.outputs)
    (hg : u.gLines = t.gLines) (hs : u.slots = t.slots) (he : u.expiry = t.expiry) : OutputsFollow s u S := by
  have hout : ∀ o, u.output o = t.output o := fun o => by rw [State.output, ho, State.output]
  refine ⟨fun o => ?_, fun o => ?_, fun o e hk => ?_⟩
  · rw [hout, State.held_congr hs, h.outputs]
  · rw [hout, hg, h.lines]
  · rw [hout, he, h.settles o e hk]

/-- The queue that follows reads the outputs of the two states and the clock. -/
theorem State.expiryFollow_congr {s t u : State} (ho : u.outputs = t.outputs) (q : List Entry) :
    s.expiryFollow u q = s.expiryFollow t q := by
  have hout : ∀ o, u.output o = t.output o := fun o => by rw [State.output, ho, State.output]
  simp [State.expiryFollow, State.falls, State.riseEntry, hout]

@[simp] theorem State.recomputeAll_empty (s : State) : s.recomputeAll 0 = s := by
  have : members 0 = [] := by decide
  rw [State.recomputeAll, this, List.foldl_nil]

/-! ### Closing a slot -/

/-- The slot's entries go, it takes the record `x` and keeps its generation, the wait queue becomes `w`, and the outputs of
`S` follow their holders: what freeing a slot and ending a lease have in common (R12, R16). -/
def State.closeSlot (s : State) (i : SlotId) (x : Option Lease) (S : OutputSet) (w : List SlotId) : State :=
  State.recomputeAll { (s.unscheduleSlot i).putLease i x with waitQueue := w } S

theorem Key.ofSlot_eq_false {i : SlotId} {k : Key} : k.ofSlot i = false ↔ k ≠ .lease i ∧ k ≠ .offer i ∧ k ≠ .wait i := by
  simp [Key.ofSlot, and_assoc]

/-- The entries of a slot leave the queue and the others stay in their order. -/
theorem State.unscheduleSlot_expiry (s : State) (i : SlotId) :
    (s.unscheduleSlot i).expiry = s.expiry.filter fun e => e.key.ofSlot i = false := by
  simp only [State.unscheduleSlot, State.unschedule, removeEntry, List.filter_filter]
  refine List.filter_congr fun e _ => ?_
  rw [Bool.eq_iff_iff]
  simp only [Key.ofSlot_eq_false, Bool.and_eq_true, decide_eq_true_eq]
  tauto

section
variable (s : State) (i : SlotId) (x : Option Lease) (S : OutputSet) (w : List SlotId)

theorem closeSlot_spares : Spares s (s.closeSlot i x S w) :=
  (((unscheduleSlot_spares s i).trans (putLease_spares _ i x)).trans (waitQueue_spares _ w)).trans (recomputeAll_spares _ S)

@[simp] theorem closeSlot_slots : (s.closeSlot i x S w).slots = s.slots.set i ⟨(s.slot i).generation, x⟩ :=
  recomputeAll_slots _ S

@[simp] theorem closeSlot_sessions : (s.closeSlot i x S w).sessions = s.sessions := recomputeAll_sessions _ S

@[simp] theorem closeSlot_waitQueue : (s.closeSlot i x S w).waitQueue = w := recomputeAll_waitQueue _ S

@[simp] theorem closeSlot_atnLow : (s.closeSlot i x S w).atnLow = s.atnLow := recomputeAll_atnLow _ S

theorem mem_closeSlot_of_not_settle {e : Entry} (he : e.key.isSettle = false) :
    e ∈ (s.closeSlot i x S w).expiry ↔ e ∈ s.expiry ∧ e.key.ofSlot i = false := by
  have hclosed : e ∈ (s.closeSlot i x S w).expiry ↔ e ∈ (s.unscheduleSlot i).expiry :=
    State.mem_recomputeAll_of_not_settle _ S he
  rw [hclosed, s.unscheduleSlot_expiry]
  simp

theorem closeSlot_follow : OutputsFollow s (s.closeSlot i x S w) S := by
  have h := outputsFollow_recomputeAll { (s.unscheduleSlot i).putLease i x with waitQueue := w } S
  refine ⟨h.outputs, h.lines, fun o e he => (h.settles o e he).trans ?_⟩
  have hexp : e ∈ (s.unscheduleSlot i).expiry ↔ e ∈ s.expiry := by
    rw [s.unscheduleSlot_expiry]
    simp [he, Key.ofSlot]
  exact or_congr (and_congr_left' hexp) Iff.rfl

variable {s}

theorem closeSlot_expiry (h : s.InOrder) :
    (s.closeSlot i x S w).expiry =
      s.expiryFollow (s.closeSlot i x S w) (s.expiry.filter fun e => e.key.ofSlot i = false) := by
  rw [← s.unscheduleSlot_expiry]
  exact State.expiry_recomputeAll S (s := { (s.unscheduleSlot i).putLease i x with waitQueue := w })
    (by simp only [State.InOrder, State.putLease_expiry, State.unscheduleSlot_expiry]; exact h.filter _)

end

/-! ### Freeing a slot (R16) -/

theorem freeSlot_eq {s : State} {i : SlotId} {l : Lease} (h : s.leaseAt i = some l) :
    s.freeSlot i = s.closeSlot i none l.heldOutputs (s.waitQueue.erase i) := by
  unfold State.freeSlot State.closeSlot Lease.heldOutputs
  rw [h]
  dsimp only
  split
  · rfl
  · rw [State.recomputeAll_empty]; rfl

theorem freeSlot_of_none {s : State} {i : SlotId} (h : s.leaseAt i = none) : s.freeSlot i = s := by
  rw [State.freeSlot, h]

/-- Settles O26: freeing a slot is closing it with no record. -/
theorem freeingASlot : Obligations.FreeingASlot := by
  unfold Obligations.FreeingASlot
  intro s i l hl
  rw [freeSlot_eq hl]
  exact ⟨closeSlot_spares .., closeSlot_follow .., closeSlot_slots .., closeSlot_sessions .., closeSlot_atnLow ..,
    closeSlot_waitQueue .., closeSlot_expiry _ _ _ _, fun e he => mem_closeSlot_of_not_settle _ _ _ _ _ he⟩

/-! ### The end of a lease (R11, R12) -/

/-- The record of a lease that has ended. -/
def Lease.atEnd (l : Lease) (why : EndReason) (now : Tick) (detail : Option FaultId) : Lease :=
  { l with phase := .ended l.phase.grantedAt why now detail }

/-- What the end of a lease tells its holder: ENDED, and for an OFFERED lease the voided offer (R12, R114). -/
def State.tellEnd (t : State) (l : Lease) (h : Handle) : State :=
  if l.phase.offerDeadline.isSome then ((t.setOutcome l.holder h .voided).notify l.holder .ended).notify l.holder .offerOut
  else t.notify l.holder .ended

/-- The state of a waiting or live lease decides only which of its entries, places and outputs there are to go. -/
theorem endLease_eq {s : State} {i : SlotId} {l : Lease} (h : s.leaseAt i = some l)
    (ha : l.phase.isWaiting = true ∨ l.phase.isLive = true) (why : EndReason) (detail : Option FaultId) :
    s.endLease i why detail =
      (s.closeSlot i (some (l.atEnd why s.clock detail)) l.heldOutputs
        (if l.phase.isWaiting then s.waitQueue.erase i else s.waitQueue)).tellEnd l (s.handleOf i) := by
  unfold State.endLease State.closeSlot Lease.heldOutputs Lease.atEnd State.tellEnd
  rw [h]
  dsimp only
  cases hp : l.phase with
  | waiting w => simp [Phase.isLive, Phase.isWaiting, Phase.grantedAt, Phase.offerDeadline]; rfl
  | live ga d => rfl
  | offered ga d r od => rfl
  | ended ga y at_ x => simp [hp, Phase.isWaiting, Phase.isLive] at ha

theorem endLease_of_none {s : State} {i : SlotId} (h : s.leaseAt i = none) (why : EndReason) (detail : Option FaultId) :
    s.endLease i why detail = s := by
  rw [State.endLease, h]

/-- A FREE slot and an ENDED lease are left as they are (R15). -/
theorem endLease_of_inactive {s : State} {i : SlotId}
    (h : ∀ l, s.leaseAt i = some l → l.phase.isWaiting = false ∧ l.phase.isLive = false) (why : EndReason)
    (detail : Option FaultId) : s.endLease i why detail = s := by
  cases hl : s.leaseAt i with
  | none => exact endLease_of_none hl why detail
  | some l =>
    obtain ⟨hw, hv⟩ := h l hl
    unfold State.endLease
    rw [hl]
    dsimp only
    cases hp : l.phase <;> simp [hp, Phase.isWaiting, Phase.isLive] at hw hv; rfl

section
variable (t : State) (l : Lease) (h : Handle)

theorem tellEnd_spares : Spares t (t.tellEnd l h) := by
  unfold State.tellEnd
  split
  · exact ((setOutcome_spares ..).trans (notify_spares ..)).trans (notify_spares ..)
  · exact notify_spares ..

@[simp] theorem tellEnd_slots : (t.tellEnd l h).slots = t.slots := by
  unfold State.tellEnd; split <;> simp [State.setOutcome]

@[simp] theorem tellEnd_outputs : (t.tellEnd l h).outputs = t.outputs := by
  unfold State.tellEnd; split <;> simp [State.setOutcome]

@[simp] theorem tellEnd_gLines : (t.tellEnd l h).gLines = t.gLines := by
  unfold State.tellEnd; split <;> simp [State.setOutcome]

@[simp] theorem tellEnd_waitQueue : (t.tellEnd l h).waitQueue = t.waitQueue := by
  unfold State.tellEnd; split <;> simp [State.setOutcome]

@[simp] theorem tellEnd_expiry : (t.tellEnd l h).expiry = t.expiry := by
  unfold State.tellEnd; split <;> simp [State.setOutcome]

/-- The holder's session after it is told; no other session moves. -/
theorem State.session_tellEnd (c : Client) :
    (t.tellEnd l h).session c =
      if c = l.holder then
        { t.session c with
          notices := if t.isOpen c then (t.session c).notices ||| Notice.bit .ended |||
            (if l.phase.offerDeadline.isSome then Notice.bit .offerOut else 0) else (t.session c).notices
          outcome := if l.phase.offerDeadline.isSome then some (h, .voided) else (t.session c).outcome }
      else t.session c := by
  unfold State.tellEnd
  by_cases hc : c = l.holder
  · subst hc
    split <;> cases ho : t.isOpen l.holder <;>
      simp [State.session_notify, State.isOpen_notify, State.isOpen_setOutcome, ho]
  · split <;> simp [State.session_notify, State.isOpen_notify, State.isOpen_setOutcome, hc, Ne.symm hc]

theorem State.atnLow_tellEnd :
    (t.tellEnd l h).atnLow = if t.isOpen l.holder then (t.tellEnd l h).attention else t.atnLow := by
  unfold State.tellEnd
  split
  · rw [State.atnLow_notify, State.isOpen_notify, State.isOpen_setOutcome]
    split
    · rfl
    · rw [State.atnLow_notify, State.isOpen_setOutcome, if_neg ‹_›]; rfl
  · exact t.atnLow_notify l.holder .ended

end

/-- Settles O27: the end of a lease is closing its slot with the end record and telling the holder. -/
theorem endingALease : Obligations.EndingALease := by
  unfold Obligations.EndingALease
  intro s i l why detail hl ha
  rw [endLease_eq hl ha]
  have hopen : ∀ x S w, (s.closeSlot i x S w).isOpen l.holder = s.isOpen l.holder := fun x S w =>
    State.isOpen_congr (closeSlot_sessions s i x S w) l.holder
  have hses : ∀ x S w c, (s.closeSlot i x S w).session c = s.session c := fun x S w c =>
    State.session_congr (closeSlot_sessions s i x S w) c
  dsimp only
  refine ⟨(closeSlot_spares ..).trans (tellEnd_spares ..),
    (closeSlot_follow ..).of_eq (tellEnd_outputs ..) (tellEnd_gLines ..) (tellEnd_slots ..) (tellEnd_expiry ..),
    ?slots, ?queue, fun horder => ?expiry, fun e he => ?others, fun c hc => ?sessions, ?notices, ?outcome, ?atn⟩
  case slots => rw [tellEnd_slots, closeSlot_slots]; rfl
  case queue => rw [tellEnd_waitQueue, closeSlot_waitQueue]
  case expiry =>
    rw [tellEnd_expiry, State.expiryFollow_congr (tellEnd_outputs ..)]
    exact closeSlot_expiry i _ _ _ horder
  case others => rw [tellEnd_expiry, mem_closeSlot_of_not_settle _ _ _ _ _ he]
  case sessions => rw [State.session_tellEnd, if_neg hc, hses]
  case notices => rw [State.session_tellEnd, if_pos rfl, hses, hopen]
  case outcome => rw [State.session_tellEnd, if_pos rfl, hses]
  case atn => rw [State.atnLow_tellEnd, hopen, closeSlot_atnLow]

end Sys2Proof.Machine
end

section
/-! SUPPORT. The lease table after the shared operations: what slot `j` holds once slot `i` was freed, ended, returned to its
giver or granted, and after folds of these over a list of slots. -/

namespace Sys2Proof.Machine

/-! ### One slot -/

theorem State.slot_congr {s t : State} (h : t.slots = s.slots) (i : SlotId) : t.slot i = s.slot i := by
  rw [State.slot, h, State.slot]

/-- A slot written in the table as a whole. -/
theorem State.slot_of_set {s t : State} {i : SlotId} {x : Slot} (h : t.slots = s.slots.set i x) (j : SlotId) :
    t.slot j = if i = j then x else s.slot j := by
  simp [State.slot, h, Vector.getElem_set, Fin.val_inj]

theorem State.leaseAt_of_set {s t : State} {i : SlotId} {x : Slot} (h : t.slots = s.slots.set i x) (j : SlotId) :
    t.leaseAt j = if i = j then x.lease else s.leaseAt j := by
  rw [State.leaseAt, State.slot_of_set h]; split <;> rfl

/-- Slot `i` keeps what it has where it is rewritten with it. -/
theorem State.slots_set_self (s : State) (i : SlotId) : s.slots.set i (s.slot i) = s.slots := by
  ext j hj
  rw [Vector.getElem_set]
  split
  next h => subst h; rfl
  next => rfl

/-- Nothing but the slot itself, of its two fields. -/
theorem State.slot_eta (s : State) (i : SlotId) : (⟨(s.slot i).generation, s.leaseAt i⟩ : Slot) = s.slot i := rfl

theorem freeSlot_slots (s : State) (i : SlotId) :
    (s.freeSlot i).slots = s.slots.set i ⟨(s.slot i).generation, none⟩ := by
  cases hl : s.leaseAt i with
  | none => rw [freeSlot_of_none hl, ← hl, s.slot_eta, s.slots_set_self]
  | some l => rw [freeSlot_eq hl, closeSlot_slots]

theorem State.leaseAt_freeSlot (s : State) (i j : SlotId) :
    (s.freeSlot i).leaseAt j = if i = j then none else s.leaseAt j :=
  State.leaseAt_of_set (freeSlot_slots s i) j

/-- The record of a slot after the end of its lease: an ENDED lease stays as it is (R15). -/
def Lease.afterEnd (l : Lease) (why : EndReason) (now : Tick) (detail : Option FaultId) : Lease :=
  if l.phase.isWaiting || l.phase.isLive then l.atEnd why now detail else l

theorem endLease_slots (s : State) (i : SlotId) (why : EndReason) (detail : Option FaultId) :
    (s.endLease i why detail).slots =
      s.slots.set i ⟨(s.slot i).generation, (s.leaseAt i).map fun l => l.afterEnd why s.clock detail⟩ := by
  cases hl : s.leaseAt i with
  | none => rw [endLease_of_none hl, Option.map_none, ← hl, s.slot_eta, s.slots_set_self]
  | some l =>
    by_cases ha : l.phase.isWaiting = true ∨ l.phase.isLive = true
    · rw [endLease_eq hl ha, tellEnd_slots, closeSlot_slots, Option.map_some, Lease.afterEnd, if_pos (by simpa using ha)]
    · have hoff : s.endLease i why detail = s :=
        endLease_of_inactive (fun l' hl' => by
          obtain rfl : l = l' := Option.some.inj (hl.symm.trans hl')
          simpa using ha) why detail
      rw [hoff, Option.map_some, Lease.afterEnd, if_neg (by simpa using ha), ← hl, s.slot_eta, s.slots_set_self]

theorem State.leaseAt_endLease (s : State) (i j : SlotId) (why : EndReason) (detail : Option FaultId) :
    (s.endLease i why detail).leaseAt j =
      if i = j then (s.leaseAt i).map fun l => l.afterEnd why s.clock detail else s.leaseAt j :=
  State.leaseAt_of_set (endLease_slots s i why detail) j

theorem Lease.afterEnd_inactive (l : Lease) (why : EndReason) (now : Tick) (detail : Option FaultId) :
    (l.afterEnd why now detail).phase.isWaiting = false ∧ (l.afterEnd why now detail).phase.isLive = false := by
  unfold Lease.afterEnd
  split
  · exact ⟨rfl, rfl⟩
  · simp_all

/-- The receiver of a pending offer. -/
def Phase.receiver : Phase → Option Client
  | .waiting _ => none
  | .live _ _ => none
  | .offered _ _ r _ => some r
  | .ended _ _ _ _ => none

/-- A lease once its offer is resolved with the giver keeping it (6.2); the others stay as they are. -/
def Lease.returned (l : Lease) : Lease :=
  match l.phase with
  | .offered ga d _ _ => { l with phase := .live ga d }
  | .waiting _ => l
  | .live _ _ => l
  | .ended _ _ _ _ => l

theorem State.giverTo_eq_some {s : State} {c g : Client} {i : SlotId} :
    s.giverTo c i = some g ↔ ∃ l, s.leaseAt i = some l ∧ l.phase.receiver = some c ∧ l.holder = g := by
  unfold State.giverTo
  cases s.leaseAt i with
  | none => simp
  | some l => cases hp : l.phase <;> simp [Phase.receiver, hp]

theorem State.giverTo_congr {s t : State} {i : SlotId} (h : t.leaseAt i = s.leaseAt i) (c : Client) :
    t.giverTo c i = s.giverTo c i := by
  unfold State.giverTo; rw [h]

theorem State.heldBy_iff {s : State} {c : Client} {i : SlotId} :
    s.heldBy c i = true ↔ ∃ l, s.leaseAt i = some l ∧ l.holder = c := by
  unfold State.heldBy
  cases s.leaseAt i <;> simp

theorem State.offeredAt_iff {s : State} {i : SlotId} :
    s.offeredAt i = true ↔ ∃ l ga d r od, s.leaseAt i = some l ∧ l.phase = .offered ga d r od := by
  unfold State.offeredAt
  cases s.leaseAt i with
  | none => simp
  | some l => cases hp : l.phase <;> simp [Phase.offerDeadline, hp]

/-- An offer resolved with the lease staying with its giver, in one update. -/
theorem resolveOffer_of_offered {s : State} {i : SlotId} {l : Lease} {ga d od : Tick} {r : Client}
    (hl : s.leaseAt i = some l) (hp : l.phase = .offered ga d r od) (o : Outcome) :
    s.resolveOffer i o =
      ((s.unschedule (.offer i)).putLease i (some { l with phase := .live ga d })).setOutcome l.holder (s.handleOf i) o := by
  unfold State.resolveOffer
  simp [hl, hp]

theorem resolveOffer_of_not_offered {s : State} {i : SlotId} (h : s.offeredAt i = false) (o : Outcome) :
    s.resolveOffer i o = s := by
  unfold State.resolveOffer
  cases hl : s.leaseAt i with
  | none => rfl
  | some l =>
    cases hp : l.phase with
    | offered ga d r od => simp [State.offeredAt, hl, hp, Phase.offerDeadline] at h
    | _ => simp [hp]

theorem resolveOffer_slots (s : State) (i : SlotId) (o : Outcome) :
    (s.resolveOffer i o).slots = s.slots.set i ⟨(s.slot i).generation, (s.leaseAt i).map Lease.returned⟩ := by
  cases ho : s.offeredAt i with
  | true =>
    obtain ⟨l, ga, d, r, od, hl, hp⟩ := State.offeredAt_iff.mp ho
    rw [resolveOffer_of_offered hl hp, hl, Option.map_some, Lease.returned, hp]
    rfl
  | false =>
    have hsame : (s.leaseAt i).map Lease.returned = s.leaseAt i := by
      cases hl : s.leaseAt i with
      | none => rfl
      | some l => cases hp : l.phase <;> simp [State.offeredAt, hl, hp, Phase.offerDeadline, Lease.returned] at ho ⊢
    rw [resolveOffer_of_not_offered ho, hsame, s.slot_eta, s.slots_set_self]

theorem State.leaseAt_resolveOffer (s : State) (i j : SlotId) (o : Outcome) :
    (s.resolveOffer i o).leaseAt j = if i = j then (s.leaseAt i).map Lease.returned else s.leaseAt j :=
  State.leaseAt_of_set (resolveOffer_slots s i o) j

theorem Lease.returned_keeps (l : Lease) : l.returned.holder = l.holder ∧ l.returned.outputs = l.outputs ∧
    l.returned.kind = l.kind ∧ l.returned.phase.isLive = l.phase.isLive ∧
    l.returned.phase.isWaiting = l.phase.isWaiting ∧ l.returned.phase.receiver = none := by
  cases hp : l.phase <;> simp [Lease.returned, hp, Phase.isLive, Phase.isWaiting, Phase.receiver]

/-- The lease of a granted request (R60). -/
def Lease.granted (l : Lease) (now : Tick) : Lease := { l with phase := .live now (now + BitVec.ofNat 32 l.term) }

/-- The grant of a waiting request but for its outputs' rise and its notice (R60). -/
def State.grantedSlot (s : State) (i : SlotId) (l : Lease) : State :=
  { s with
    slots := s.slots.set i ⟨(s.slot i).generation, some (l.granted s.clock)⟩
    waitQueue := s.waitQueue.erase i
    expiry := insertEntry s.clock ⟨s.clock + BitVec.ofNat 32 l.term, .lease i⟩ (removeEntry (.wait i) s.expiry) }

theorem grantWaiting_eq (s : State) (i : SlotId) (l : Lease) :
    s.grantWaiting i l = ((s.grantedSlot i l).recomputeAll l.outputs).notify l.holder .granted := rfl

theorem grantWaiting_slots (s : State) (i : SlotId) (l : Lease) :
    (s.grantWaiting i l).slots = s.slots.set i ⟨(s.slot i).generation, some (l.granted s.clock)⟩ := by
  rw [grantWaiting_eq, notify_slots, recomputeAll_slots]
  rfl

theorem State.leaseAt_grantWaiting (s : State) (i j : SlotId) (l : Lease) :
    (s.grantWaiting i l).leaseAt j = if i = j then some (l.granted s.clock) else s.leaseAt j :=
  State.leaseAt_of_set (grantWaiting_slots s i l) j

/-! ### A list of slots -/

theorem State.leaseAt_foldl_freeSlot (L : List SlotId) (s : State) (j : SlotId) :
    (L.foldl State.freeSlot s).leaseAt j = if j ∈ L then none else s.leaseAt j := by
  induction L generalizing s with
  | nil => simp
  | cons i L ih =>
    rw [List.foldl_cons, ih, s.leaseAt_freeSlot]
    by_cases hi : i = j
    · subst hi; simp
    · simp [hi, Ne.symm hi]

theorem State.leaseAt_foldl_endLease (why : EndReason) (detail : Option FaultId) {L : List SlotId} (hL : L.Nodup) (s : State)
    (j : SlotId) : (L.foldl (fun t i => t.endLease i why detail) s).leaseAt j =
      if j ∈ L then (s.leaseAt j).map fun l => l.afterEnd why s.clock detail else s.leaseAt j := by
  induction L generalizing s with
  | nil => simp
  | cons i L ih =>
    obtain ⟨hi, hL⟩ := List.nodup_cons.mp hL
    rw [List.foldl_cons, ih hL, s.leaseAt_endLease, (endLease_spares s i why detail).clock]
    by_cases hij : i = j
    · subst hij; simp [hi]
    · simp [hij, Ne.symm hij]

theorem returnOffer_of_none {c : Client} {s : State} {i : SlotId} (h : s.giverTo c i = none) : returnOffer c s i = s := by
  rw [returnOffer, h]

theorem returnOffer_of_some {c g : Client} {s : State} {i : SlotId} (h : s.giverTo c i = some g) :
    returnOffer c s i = (s.resolveOffer i .voided).notify g .offerOut := by
  rw [returnOffer, h]

theorem State.leaseAt_returnOffer (c : Client) (s : State) (i j : SlotId) :
    (returnOffer c s i).leaseAt j =
      if i = j ∧ s.giverTo c i ≠ none then (s.leaseAt i).map Lease.returned else s.leaseAt j := by
  cases hg : s.giverTo c i with
  | none => rw [returnOffer_of_none hg]; simp
  | some g =>
    rw [returnOffer_of_some hg, State.leaseAt_congr (notify_slots _ g .offerOut), s.leaseAt_resolveOffer]
    simp

theorem State.leaseAt_foldl_returnOffer (c : Client) {L : List SlotId} (hL : L.Nodup) (s : State) (j : SlotId) :
    (L.foldl (returnOffer c) s).leaseAt j =
      if j ∈ L ∧ s.giverTo c j ≠ none then (s.leaseAt j).map Lease.returned else s.leaseAt j := by
  induction L generalizing s with
  | nil => simp
  | cons i L ih =>
    obtain ⟨hi, hL⟩ := List.nodup_cons.mp hL
    rw [List.foldl_cons, ih hL]
    by_cases hij : i = j
    · subst hij
      simp [hi, s.leaseAt_returnOffer]
    · have hsame : (returnOffer c s i).leaseAt j = s.leaseAt j := by simp [s.leaseAt_returnOffer, hij]
      simp [hsame, State.giverTo_congr hsame, Ne.symm hij]

end Sys2Proof.Machine
end

section
/-! SUPPORT. What a step can do, said once for every law: `Kept` lists the operations that the commands and events are made
of, with what is known where each is used; a law that each of them keeps is kept by every step of a running part. -/

namespace Sys2Proof.Machine

/-! ### What the checks of a command establish -/

/-- The lease a handle names, and when it names one (R7). -/
theorem State.named_eq_some {s : State} {sl g : Byte} {i : SlotId} {l : Lease} :
    s.named sl g = some (i, l) ↔ sl = byte i ∧ s.leaseAt i = some l ∧ (s.slot i).generation = g ∧ g ≠ 0 := by
  have hslot : ∀ j : SlotId, toSlot sl = some j ↔ sl = byte j := by
    intro j
    have hj := j.isLt
    simp only [toSlot, byte]
    constructor
    · intro h
      split at h
      next hlt =>
        obtain rfl := Option.some.inj h
        simp
      next => simp at h
    · rintro rfl
      have hmod : (j : Nat) % 256 = j := by omega
      simp [hmod, hj]
  unfold State.named
  cases hsl : toSlot sl with
  | none => simp [← hslot, hsl]
  | some j =>
    dsimp only
    cases hl : s.leaseAt j with
    | none =>
      simp only [← hslot, hsl, Option.some.injEq, reduceCtorEq, false_iff]
      rintro ⟨rfl, hl', -⟩
      simp [hl] at hl'
    | some m =>
      dsimp only
      rw [← hslot, hsl]
      split
      next h =>
        simp only [Option.some.injEq, Prod.mk.injEq]
        constructor
        · rintro ⟨rfl, rfl⟩; exact ⟨rfl, hl, h⟩
        · rintro ⟨rfl, hl', -⟩; exact ⟨rfl, Option.some.inj (hl.symm.trans hl')⟩
      next h =>
        simp only [reduceCtorEq, Option.some.injEq, false_iff]
        rintro ⟨rfl, -, h'⟩
        exact h h'

/-- A command for the holder alone acts on a lease of the caller or refuses (R8). -/
theorem forHolder_keeps {Q : State → Prop} {c : Client} {sl g : Byte} {s : State} {act : SlotId → Lease → State × Reply}
    (hs : Q s) (h : ∀ i l, s.leaseAt i = some l → l.holder = c → Q (act i l).1) : Q (forHolder c sl g s act).1 := by
  unfold forHolder
  split
  · exact hs
  next i l hn =>
    split
    next hc => exact h i l (State.named_eq_some.mp hn).2.1 hc
    next => exact hs

/-- ACCEPT and DECLINE act on a lease offered to the caller or refuse (R109). -/
theorem forReceiver_keeps {Q : State → Prop} {c : Client} {sl g : Byte} {s : State}
    {act : SlotId → Lease → Tick → Tick → State × Reply} (hs : Q s)
    (h : ∀ i l ga d od, s.leaseAt i = some l → l.phase = .offered ga d c od → Q (act i l ga d).1) :
    Q (forReceiver c sl g s act).1 := by
  unfold forReceiver
  split
  · exact hs
  next i l hn =>
    split
    next => exact hs
    next ga d r od hp =>
      split
      next hr => exact h i l ga d od (State.named_eq_some.mp hn).2.1 (hr ▸ hp)
      next => exact hs
    next => exact hs
    next => exact hs

/-- What a REQUEST that passes the static checks has established (R49, R50). -/
structure StaticallyFit (s : State) (c : Client) (r : RequestParams) (k : Kind) (i : SlotId) : Prop where
  mode : s.mode = .run
  outputs : r.outputs ≠ 0
  term : 1 ≤ r.term ∧ r.term ≤ Config.maxTicks
  wait : r.wait ≤ Config.maxWait
  channel : s.channelFit r = true
  pairs : s.partnersOf r.outputs &&& r.outputs = 0
  quota : s.occupied c < (s.session c).quota
  free : s.leaseAt i = none

theorem staticallyFit_of_ok {s : State} {c : Client} {r : RequestParams} {k : Kind} {i : SlotId}
    (h : s.staticChecks c r = .ok (k, i)) : StaticallyFit s c r k i := by
  unfold State.staticChecks at h
  split at h
  · simp at h
  next hmode =>
    split at h
    · simp at h
    next k' hk =>
      split at h
      · simp at h
      next hrange =>
        split at h
        · simp at h
        next hpair =>
          split at h
          · simp at h
          split at h
          · simp at h
          split at h
          · simp at h
          next hquota =>
            split at h
            · simp at h
            next j rest hfree =>
              obtain ⟨rfl, rfl⟩ : k' = k ∧ j = i := by simpa using h
              have hj : j ∈ s.freeSlots := by rw [hfree]; exact List.mem_cons_self
              simp only [not_or] at hrange
              obtain ⟨h0, h1, h2, h3, h4⟩ := hrange
              refine ⟨?_, h0, ⟨by omega, by omega⟩, by omega, by simpa using h4, ?_, by omega, ?_⟩
              · cases hm : s.mode <;> simp_all
              · simpa [State.selfExcluded] using hpair
              · simpa [State.freeSlots] using hj

theorem u16_le (a b : Byte) : u16 a b ≤ 65535 := by
  have := a.isLt
  have := b.isLt
  simp only [u16]; omega

/-! ### The operations, and what is known where each is used -/

/-- The grant of a new REQUEST but for its outputs' rise (R51). -/
def State.takenLive (s : State) (c : Client) (r : RequestParams) (k : Kind) (i : SlotId) : State :=
  (s.takeSlot i (r.lease c k (.live s.clock (s.after r.term)))).schedule (.lease i) r.term

theorem grantNew_fst (s : State) (c : Client) (r : RequestParams) (k : Kind) (i : SlotId) :
    (s.grantNew c r k i).1 = (s.takenLive c r k i).recomputeAll r.outputs := rfl

/-- RENEW's effect on the live lease `l` of slot `i` (R86). -/
def State.renewed (s : State) (i : SlotId) (l : Lease) (n : Nat) : State :=
  ((s.putLease i (some { l with term := n, phase := l.phase.withDeadline (s.after n) })).unschedule (.lease i)).schedule
    (.lease i) n

/-- OFFER's effect on the LIVE lease `l` of slot `i`, its notice apart (R107). -/
def State.offeredTo (s : State) (i : SlotId) (l : Lease) (ga d : Tick) (r : Client) (n : Nat) : State :=
  (s.putLease i (some { l with phase := .offered ga d r (s.after n) })).schedule (.offer i) n

/-- ACCEPT's effect on the lease `l` of slot `i`, its notice apart (R109). -/
def State.acceptedBy (s : State) (i : SlotId) (l : Lease) (ga d : Tick) (c : Client) : State :=
  ((s.unschedule (.offer i)).putLease i (some { l with holder := c, phase := .live ga d })).setOutcome l.holder (s.handleOf i)
    .accepted

/-- The clock's rise with the samples it brings (R72, R122). -/
def State.tick (s : State) (lines : Vector Bool 4) : State := { s with clock := s.clock + 1 }.sampleFaults lines

/-- The settings of SET_FAULT lie in their ranges (R134), at the channel's restart state. -/
structure FaultChannel.Restarted (x : FaultChannel) : Prop where
  filterSamples : 2 ≤ x.filterSamples ∧ x.filterSamples ≤ 16
  recoveryDelay : 1 ≤ x.recoveryDelay ∧ x.recoveryDelay ≤ Config.maxWait
  latchLimit : 1 ≤ x.latchLimit ∧ x.latchLimit ≤ 15
  quietPeriod : 1 ≤ x.quietPeriod ∧ x.quietPeriod ≤ Config.maxTicks
  state : x.state = .idle
  tripCount : x.tripCount = 0
  filtered : x.filtered = false
  run : x.run = 0

/-- A review keeps what the grant of an admissible waiting request keeps (R59). -/
theorem reviewFrom_keeps {P : State → Prop} (hgrant : ∀ {s i l ahead}, s.leaseAt i = some l → l.phase.isWaiting = true →
    s.admissible ahead l.outputs l.kind = true → P s → P (s.grantWaiting i l)) (ahead rest : List SlotId) {s : State}
    (hs : P s) : P (reviewFrom ahead rest s) := by
  induction rest generalizing ahead s with
  | nil => exact hs
  | cons i rest ih =>
    unfold reviewFrom
    split
    next l hl =>
      split
      next h =>
        simp only [Bool.and_eq_true] at h
        exact ih _ (hgrant hl h.1 h.2 hs)
      next => exact ih _ hs
    next => exact ih _ hs

/-- The law `P` is kept by every operation that commands and events are made of. -/
structure Kept (P : State → Prop) : Prop where
  outside : ∀ {s} (l : Link) (p : Pins) (q : List Instr), P s → P { s with link := l, pins := p, pending := q }
  writeSlot : ∀ {s} (c : Client) (x : Response), P s → P (s.writeSlot c x)
  conclude : ∀ {s} (r : Received) (a : Reply), P s → P (s.conclude r a)
  notify : ∀ {s} (c : Client) (k : Notice), P s → P (s.notify c k)
  freeSlot : ∀ {s} (i : SlotId), P s → P (s.freeSlot i)
  endLease : ∀ {s} (i : SlotId) (why : EndReason) (d : Option FaultId), P s → P (s.endLease i why d)
  grantWaiting : ∀ {s i l ahead}, s.leaseAt i = some l → l.phase.isWaiting = true →
    s.admissible ahead l.outputs l.kind = true → P s → P (s.grantWaiting i l)
  resolveOffer : ∀ {s} (i : SlotId) (o : Outcome), P s → P (s.resolveOffer i o)
  setOutcome : ∀ {s c} (h : Handle) (o : Outcome), s.isOpen c = true → P s → P (s.setOutcome c h o)
  ackEnd : ∀ {s i l}, s.leaseAt i = some l → l.phase.isWaiting = false → l.phase.isLive = false → P s →
    P (s.putLease i none)
  grantNew : ∀ {s c r k i}, s.isOpen c = true → StaticallyFit s c r k i → r.budget ≤ Config.maxBudget →
    s.admissible s.waitQueue r.outputs k = true → P s → P (s.grantNew c r k i).1
  queueNew : ∀ {s c r k i}, s.isOpen c = true → StaticallyFit s c r k i → r.budget ≤ Config.maxBudget → r.wait ≠ 0 →
    s.waitQueue.length < Config.queueCapacity → P s → P (s.queueNew c r k i).1
  renew : ∀ {s i l n}, s.leaseAt i = some l → l.phase.isLive = true → 1 ≤ n → n ≤ s.minMaxTerm l.outputs → P s →
    P (s.renewed i l n)
  extend : ∀ {s i l k n}, s.leaseAt i = some l → l.phase.isLive = true → l.count = some k → 1 ≤ n →
    k.budget + n ≤ Config.maxBudget → P s → P (s.putLease i (some { l with count := some { k with budget := k.budget + n } }))
  offer : ∀ {s i l ga d r n}, s.leaseAt i = some l → l.phase = .live ga d → s.isOpen r = true → r ≠ l.holder → 1 ≤ n →
    n ≤ Config.maxOfferTime → P s → P (s.offeredTo i l ga d r n)
  accept : ∀ {s i l ga d c od}, s.leaseAt i = some l → l.phase = .offered ga d c od → s.isOpen c = true →
    s.occupied c < (s.session c).quota → P s → P (s.acceptedBy i l ga d c)
  start : ∀ {s}, s.mode = .setup → P s → P { s with mode := .run }
  halt : ∀ {s}, (∀ i, s.liveAt i = false) → (∀ i ∈ s.waitQueue, s.waitingAt i = false) → P s → P { s with mode := .setup }
  setOutput : ∀ {s} (o : OutputId) (m g : Nat) (d : Drive), m ≤ Config.maxTicks → g ≤ Config.maxGap → P s →
    P (s.putOutput o { s.output o with maxTerm := m, gap := g, drive := d })
  setPair : ∀ {s a b} (p : Bool), s.mode = .setup → a ≠ b → P s → P (s.setPair a b p)
  putCount : ∀ {s} (ch : CountId) (x : CountChannel), P s → P (s.putCount ch x)
  setQuota : ∀ {s c q}, s.occupied c ≤ q → P s → P (s.putSession c { s.session c with quota := q })
  setMask : ∀ {s c} (m : NoticeSet), s.isOpen c = true → P s →
    P (s.putSession c { s.session c with mask := m }).updateAtn
  readNotices : ∀ {s} (c : Client), P s → P (s.putSession c { s.session c with notices := 0 }).updateAtn
  openFresh : ∀ {s} (r : Received), s.isOpen r.client = false → P s → P (s.openFresh r)
  closeRecord : ∀ {s c}, (∀ i, s.heldBy c i = false ∧ s.giverTo c i = none) → P s → P (s.closeRecord c)
  chargeSlot : ∀ {s} (ch : CountId) (i : SlotId), P s → P (chargeSlot ch s i)
  restartFault : ∀ {s x} (ch : FaultId), x.Restarted → P s →
    P (((s.unscheduleFault ch).uncut ch ((s.unscheduleFault ch).cutByChannel ch)).putFault ch x)
  releaseFault : ∀ {s ch}, (s.fault ch).state = .latched → (s.fault ch).filtered = false → P s →
    P ((s.putFault ch { s.fault ch with state := .idle, tripCount := 0 }).uncut ch (members (s.fault ch).cutSet))
  levelChange : ∀ {s} (ch : FaultId), P s → P (s.levelChange ch)
  deliverFront : ∀ {s k}, s.frontDue k = true → P s → P (s.deliverFront k)
  tick : ∀ {s} (lines : Vector Bool 4), P s → P (s.finishTick.tick lines)

namespace Kept

variable {P : State → Prop} (K : Kept P) {s : State}

include K

/-! ### Operations made of these -/

theorem reviewFrom (ahead rest : List SlotId) (hs : P s) : P (reviewFrom ahead rest s) :=
  reviewFrom_keeps K.grantWaiting ahead rest hs

theorem review (hs : P s) : P s.review := K.reviewFrom _ _ hs

theorem reviewIf (b : Bool) (hs : P s) : P (s.reviewIf b) := by
  cases b
  · exact hs
  · exact K.review hs

omit K in
/-- A fold keeps what each of its steps keeps. -/
theorem foldl {α : Type} {f : State → α → State} (hf : ∀ {s} (a : α), P s → P (f s a)) (L : List α) (hs : P s) :
    P (L.foldl f s) := by
  induction L generalizing s with
  | nil => exact hs
  | cons a L ih => exact ih (hf a hs)

theorem returnOffer (c : Client) (i : SlotId) (hs : P s) : P (returnOffer c s i) := by
  unfold Machine.returnOffer
  split
  · exact K.notify _ _ (K.resolveOffer _ _ hs)
  · exact hs

/-- The full close (R145): once the slots are freed and the offers returned, nothing names the client any more. -/
theorem closeFull (c : Client) (hs : P s) : P (s.closeFull c) := by
  have hnone : ∀ i, (((List.finRange 32).foldl (Machine.returnOffer c) ((s.slotsOf c).foldl State.freeSlot s)).heldBy c i =
      false) ∧ ((List.finRange 32).foldl (Machine.returnOffer c) ((s.slotsOf c).foldl State.freeSlot s)).giverTo c i = none := by
    intro i
    have hfreed := s.leaseAt_foldl_freeSlot (s.slotsOf c) i
    have hback := State.leaseAt_foldl_returnOffer c (List.nodup_finRange 32) ((s.slotsOf c).foldl State.freeSlot s) i
    constructor
    · rw [Bool.eq_false_iff]
      intro hh
      obtain ⟨l, hl, hc⟩ := State.heldBy_iff.mp hh
      have hin : ∀ m, s.leaseAt i = some m → m.holder = c → i ∈ s.slotsOf c := fun m hm hmc => by
        simp only [State.slotsOf, List.mem_filter, List.mem_finRange, true_and]
        exact State.heldBy_iff.mpr ⟨m, hm, hmc⟩
      rw [hback, hfreed] at hl
      by_cases hi : i ∈ s.slotsOf c
      · simp [hi] at hl
      · rw [if_neg hi] at hl
        split at hl
        · obtain ⟨m, hm, rfl⟩ := Option.map_eq_some_iff.mp hl
          exact hi (hin m hm (m.returned_keeps.1 ▸ hc))
        · exact hi (hin l hl hc)
    · rw [Option.eq_none_iff_forall_not_mem]
      intro g hg
      obtain ⟨l, hl, hr, -⟩ := State.giverTo_eq_some.mp hg
      rw [hback] at hl
      by_cases hgi : ((s.slotsOf c).foldl State.freeSlot s).giverTo c i = none
      · rw [if_neg (by simp [hgi])] at hl
        rw [State.giverTo_eq_some.mpr ⟨l, hl, hr, rfl⟩] at hgi
        simp at hgi
      · rw [if_pos ⟨List.mem_finRange i, hgi⟩] at hl
        obtain ⟨m, -, rfl⟩ := Option.map_eq_some_iff.mp hl
        simp [m.returned_keeps.2.2.2.2.2] at hr
  exact K.reviewIf _ (K.closeRecord hnone (foldl (K.returnOffer c) _ (foldl K.freeSlot _ hs)))

theorem notifyMode (hs : P s) : P s.notifyMode := foldl (fun c => K.notify c .mode) _ hs

theorem haltAll (L : List SlotId) (hs : P s) : P (s.haltAll L) := foldl (fun i => K.endLease i _ _) _ hs

theorem deliverDue (n : Nat) (hs : P s) : P (deliverDue n s) := by
  induction n generalizing s with
  | zero => exact hs
  | succ n ih =>
    unfold Machine.deliverDue
    split
    · exact hs
    next e q he =>
      split
      next hd => exact ih (K.deliverFront (by simp [State.frontDue, he, hd]) hs)
      next => exact hs

theorem takeChanges (hs : P s) : P s.takeChanges := by
  refine foldl (fun {t} ch ht => ?_) _ hs
  split
  · exact K.levelChange ch ht
  · exact ht

theorem finishTick (hs : P s) : P s.finishTick := K.takeChanges (K.deliverDue _ hs)

theorem countEdge (ch : CountId) (hs : P s) : P (s.countEdge ch) :=
  K.reviewIf _ (foldl (K.chargeSlot ch) _ (K.putCount ch _ hs))

theorem sampleCount (ch : CountId) (level : Bool) (hs : P s) : P (s.sampleCount ch level) := by
  have hsample := K.putCount ch ((s.count ch).sampled level)
    (K.outside s.link { s.pins with count := s.pins.count.set ch level } s.pending hs)
  unfold State.sampleCount
  dsimp only
  split
  · exact K.countEdge ch hsample
  · exact hsample

end Kept

end Sys2Proof.Machine
end

section
/-! SUPPORT. Every command's body and every event in the terms of `Kept`: a law kept by the operations is kept by each command
of a running part, and a part that does not run changes only by a reset, its end, or the end of the internal start. -/

namespace Sys2Proof.Machine

/-! ### What is live and what waits after the ends of HALT -/

theorem State.liveAt_eq (s : State) (i : SlotId) : s.liveAt i = (s.leaseAt i).any fun l => l.phase.isLive := by
  unfold State.liveAt; cases s.leaseAt i <;> rfl

theorem State.waitingAt_eq (s : State) (i : SlotId) : s.waitingAt i = (s.leaseAt i).any fun l => l.phase.isWaiting := by
  unfold State.waitingAt; cases s.leaseAt i <;> rfl

theorem State.liveAt_endLease (s : State) (i j : SlotId) (why : EndReason) (d : Option FaultId) :
    (s.endLease i why d).liveAt j = (decide (i ≠ j) && s.liveAt j) := by
  rw [State.liveAt_eq, s.leaseAt_endLease, s.liveAt_eq]
  by_cases hij : i = j
  · cases s.leaseAt i <;> simp [hij, (Lease.afterEnd_inactive _ _ _ _).2]
  · simp [hij]

theorem State.waitingAt_endLease (s : State) (i j : SlotId) (why : EndReason) (d : Option FaultId) :
    (s.endLease i why d).waitingAt j = (decide (i ≠ j) && s.waitingAt j) := by
  rw [State.waitingAt_eq, s.leaseAt_endLease, s.waitingAt_eq]
  by_cases hij : i = j
  · cases s.leaseAt i <;> simp [hij, (Lease.afterEnd_inactive _ _ _ _).1]
  · simp [hij]

theorem State.liveAt_haltAll (s : State) (L : List SlotId) (j : SlotId) :
    (s.haltAll L).liveAt j = (decide (j ∉ L) && s.liveAt j) := by
  induction L generalizing s with
  | nil => simp [State.haltAll]
  | cons i L ih =>
    refine (ih (s.endLease i .halted none)).trans ?_
    rw [s.liveAt_endLease]
    by_cases hij : i = j
    · simp [hij]
    · simp [hij, Ne.symm hij]

theorem State.waitingAt_haltAll (s : State) (L : List SlotId) (j : SlotId) :
    (s.haltAll L).waitingAt j = (decide (j ∉ L) && s.waitingAt j) := by
  induction L generalizing s with
  | nil => simp [State.haltAll]
  | cons i L ih =>
    refine (ih (s.endLease i .halted none)).trans ?_
    rw [s.waitingAt_endLease]
    by_cases hij : i = j
    · simp [hij]
    · simp [hij, Ne.symm hij]

theorem endLease_waitQueue_subset (s : State) (i : SlotId) (why : EndReason) (d : Option FaultId) :
    (s.endLease i why d).waitQueue ⊆ s.waitQueue := by
  by_cases ha : ∃ l, s.leaseAt i = some l ∧ (l.phase.isWaiting = true ∨ l.phase.isLive = true)
  · obtain ⟨l, hl, ha⟩ := ha
    rw [endLease_eq hl ha, tellEnd_waitQueue, closeSlot_waitQueue]
    split
    · exact List.erase_subset
    · exact List.Subset.refl _
  · rw [endLease_of_inactive fun l hl => by simpa using fun h => ha ⟨l, hl, h⟩]
    exact List.Subset.refl _

theorem haltAll_waitQueue_subset (L : List SlotId) (s : State) : (s.haltAll L).waitQueue ⊆ s.waitQueue := by
  induction L generalizing s with
  | nil => exact List.Subset.refl _
  | cons i L ih => exact List.Subset.trans (ih (s.endLease i .halted none)) (endLease_waitQueue_subset s i .halted none)

/-! ### OPEN, with SEN read first (R144) -/

/-- The state with SEN's level kept, which is read for client 0 alone. -/
def State.readSen (s : State) (sen : Bool) (c : Client) : State :=
  if c = 0 then { s with pins := { s.pins with sen := sen } } else s

theorem openFrame_eq (sen : Bool) (r : Received) (s : State) :
    openFrame sen r s =
      if r.params.length ≠ 0 then s.answerSlot r (.refuse .badLength)
      else if r.client = 0 ∧ sen = false then (s.readSen sen r.client).answerSlot r (.refuse .notPermitted)
      else State.openFresh (if (s.readSen sen r.client).isOpen r.client then (s.readSen sen r.client).closeFull r.client
        else s.readSen sen r.client) r := rfl

/-- A session closed in full is CLOSED (R145). -/
theorem State.isOpen_closeFull (s : State) (c : Client) : (s.closeFull c).isOpen c = false := by
  rw [State.isOpen, State.closeFull, (reviewIf_spares ..).opened]
  simp [State.closeRecord, State.session, State.updateAtn, State.putSession]

namespace Kept

variable {P : State → Prop} (K : Kept P) {s : State}

include K

/-! ### Leases -/

theorem requestBody (c : Client) (p : List Byte) (hc : s.isOpen c = true) (hs : P s) : P (requestBody c p s).1 := by
  unfold Machine.requestBody
  split
  · exact hs
  next r hr =>
    have hbudget : r.budget ≤ Config.maxBudget := by
      unfold requestParams at hr
      split at hr
      · obtain rfl := Option.some.inj hr; exact u16_le _ _
      · simp at hr
    split
    · exact hs
    next k i hok =>
      have hfit := staticallyFit_of_ok hok
      split
      next ha => exact K.grantNew hc hfit hbudget ha hs
      next =>
        split
        · exact hs
        next hw =>
          split
          next hq => exact K.queueNew hc hfit hbudget hw hq hs
          next => exact hs

theorem releaseBody (c : Client) (p : List Byte) (hc : s.isOpen c = true) (hs : P s) : P (releaseBody c p s).1 := by
  unfold Machine.releaseBody
  split
  · refine forHolder_keeps hs fun i l hl _ => ?_
    have hfree := K.freeSlot i hs
    have hopen : (s.freeSlot i).isOpen c = true := by
      rw [State.isOpen, (freeSlot_spares s i).opened]; exact hc
    split
    · exact K.review hfree
    · exact K.review hfree
    · exact K.review (K.setOutcome _ _ hopen hfree)
    · exact hs
  · exact hs

theorem renewBody (c : Client) (p : List Byte) (hs : P s) : P (renewBody c p s).1 := by
  have hlive : ∀ {i : SlotId} {l : Lease} {phase : Tick → Phase} (n : Nat), s.leaseAt i = some l →
      l.phase.isLive = true → (∀ d, phase d = l.phase.withDeadline d) → P (renewLive i l n phase s).1 := by
    intro i l phase n hl hlive hphase
    unfold renewLive
    split
    next hn =>
      have := K.renew hl hlive hn.1 hn.2 hs
      simpa only [State.renewed, ← hphase] using this
    next => exact hs
  unfold Machine.renewBody
  split
  · refine forHolder_keeps hs fun i l hl _ => ?_
    split
    next => exact hs
    next => exact hs
    next hp => exact hlive _ hl (by rw [hp]; rfl) (by rw [hp]; exact fun _ => rfl)
    next hp => exact hlive _ hl (by rw [hp]; rfl) (by rw [hp]; exact fun _ => rfl)
  · exact hs

theorem extendBody (c : Client) (p : List Byte) (hs : P s) : P (extendBody c p s).1 := by
  have hlive : ∀ {i : SlotId} {l : Lease} (n : Nat), s.leaseAt i = some l → l.phase.isLive = true →
      P (extendBody.extendLive i l n s).1 := by
    intro i l n hl hlive
    unfold extendBody.extendLive
    split
    next => exact hs
    next k hk =>
      split
      next hn => exact K.extend hl hlive hk hn.1 hn.2 hs
      next => exact hs
  unfold Machine.extendBody
  split
  · refine forHolder_keeps hs fun i l hl _ => ?_
    split
    next => exact hs
    next => exact hs
    next hp => exact hlive _ hl (by rw [hp]; rfl)
    next hp => exact hlive _ hl (by rw [hp]; rfl)
  · exact hs

theorem ackEndBody (c : Client) (p : List Byte) (hs : P s) : P (ackEndBody c p s).1 := by
  unfold Machine.ackEndBody
  split
  · refine forHolder_keeps hs fun i l hl _ => ?_
    split
    next hp => exact K.ackEnd hl (by rw [hp]; rfl) (by rw [hp]; rfl) hs
    all_goals exact hs
  · exact hs

theorem revokeBody (c : Client) (p : List Byte) (hs : P s) : P (revokeBody c p s).1 := by
  unfold Machine.revokeBody
  split
  · split
    · exact hs
    · split
      · exact hs
      all_goals exact K.review (K.endLease _ _ _ hs)
  · exact hs

/-! ### Lease transfer -/

theorem offerBody (c : Client) (p : List Byte) (hs : P s) : P (offerBody c p s).1 := by
  unfold Machine.offerBody
  split
  · refine forHolder_keeps hs fun i l hl hc => ?_
    split
    · exact hs
    · exact hs
    · exact hs
    next ga d hp =>
      split
      · exact hs
      next r _ =>
        split
        next h => exact K.notify r _ (K.offer hl hp h.1 (hc ▸ h.2.1) h.2.2.1 h.2.2.2 hs)
        next => exact hs
  · exact hs

theorem acceptBody (c : Client) (p : List Byte) (hc : s.isOpen c = true) (hs : P s) : P (acceptBody c p s).1 := by
  unfold Machine.acceptBody
  split
  · refine forReceiver_keeps hs fun i l ga d od hl hp => ?_
    split
    · exact hs
    next hq => exact K.notify _ _ (K.accept hl hp hc (by omega) hs)
  · exact hs

theorem declineBody (c : Client) (p : List Byte) (hs : P s) : P (declineBody c p s).1 := by
  unfold Machine.declineBody
  split
  · exact forReceiver_keeps hs fun i l ga d od _ _ => K.notify _ _ (K.resolveOffer _ _ hs)
  · exact hs

theorem withdrawBody (c : Client) (p : List Byte) (hs : P s) : P (withdrawBody c p s).1 := by
  unfold Machine.withdrawBody
  split
  · refine forHolder_keeps hs fun i l _ _ => ?_
    split
    · exact K.resolveOffer _ _ hs
    all_goals exact hs
  · exact hs

/-! ### Modes and settings -/

theorem startBody (c : Client) (p : List Byte) (hs : P s) : P (startBody c p s).1 := by
  unfold Machine.startBody
  split
  · exact hs
  next hm =>
    dsimp only
    exact K.notifyMode (K.start hm hs)

/-- HALT ends all that is queued and then all that is live, so the mode changes with neither left (R159). -/
theorem haltBody (c : Client) (p : List Byte) (hs : P s) : P (haltBody c p s).1 := by
  unfold Machine.haltBody
  split
  · exact hs
  next =>
    dsimp only
    refine K.notifyMode (K.halt (fun i => ?live) (fun i hi => ?waiting) (K.haltAll _ (K.haltAll _ hs)))
    case live =>
      rw [State.liveAt_haltAll]
      cases h : (s.haltAll s.waitQueue).liveAt i <;> simp [h]
    case waiting =>
      have hin : i ∈ s.waitQueue := haltAll_waitQueue_subset _ s (haltAll_waitQueue_subset _ _ hi)
      rw [State.waitingAt_haltAll, State.waitingAt_haltAll]
      simp [hin]

theorem setOutputBody (c : Client) (p : List Byte) (hs : P s) : P (setOutputBody c p s).1 := by
  unfold Machine.setOutputBody
  split
  · exact hs
  · split
    · split
      · split
        next h => exact K.setOutput _ _ _ _ h.1 h.2 hs
        next => exact hs
      · exact hs
    · exact hs

theorem setExclusionBody (c : Client) (p : List Byte) (hs : P s) : P (setExclusionBody c p s).1 := by
  unfold Machine.setExclusionBody
  split
  · exact hs
  next hm =>
    split
    · split
      · split
        · exact hs
        next hab => exact K.setPair _ (by cases h : s.mode <;> simp_all) hab hs
      · exact hs
    · exact hs

theorem setFaultBody (c : Client) (p : List Byte) (hs : P s) : P (setFaultBody c p s).1 := by
  unfold Machine.setFaultBody
  split
  · exact hs
  · split
    · split
      · split
        next h =>
          obtain ⟨h1, h2, h3, h4, h5, h6, h7, h8⟩ := h
          exact K.reviewIf _ (K.restartFault _ ⟨⟨h1, h2⟩, ⟨h3, h4⟩, ⟨h5, h6⟩, ⟨h7, h8⟩, rfl, rfl, rfl, rfl⟩ hs)
        next => exact hs
      · exact hs
    · exact hs

theorem setCountBody (c : Client) (p : List Byte) (hs : P s) : P (setCountBody c p s).1 := by
  unfold Machine.setCountBody
  split
  · exact hs
  · split
    · split
      · exact K.putCount _ _ hs
      · exact hs
    · exact hs

theorem setQuotaBody (c : Client) (p : List Byte) (hs : P s) : P (setQuotaBody c p s).1 := by
  unfold Machine.setQuotaBody
  split
  · exact hs
  · split
    · split
      · exact hs
      · split
        · exact hs
        next h => exact K.setQuota (by omega) hs
    · exact hs

theorem releaseFaultBody (c : Client) (p : List Byte) (hs : P s) : P (releaseFaultBody c p s).1 := by
  unfold Machine.releaseFaultBody
  split
  · split
    · exact hs
    · dsimp only
      split
      next h1 h2 => exact K.reviewIf _ (K.releaseFault h1 h2 hs)
      all_goals exact hs
  · exact hs

/-! ### Sessions -/

theorem closeBody (c : Client) (p : List Byte) (hs : P s) : P (closeBody c p s).1 := K.closeFull c hs

theorem forceCloseBody (c : Client) (p : List Byte) (hs : P s) : P (forceCloseBody c p s).1 := by
  unfold Machine.forceCloseBody
  split
  · split
    · exact hs
    · split
      · exact hs
      · split
        · exact K.closeFull _ hs
        · exact hs
  · exact hs

theorem setNoticeMaskBody (c : Client) (p : List Byte) (hc : s.isOpen c = true) (hs : P s) :
    P (setNoticeMaskBody c p s).1 := by
  unfold Machine.setNoticeMaskBody
  split
  · split
    · exact K.setMask _ hc hs
    · exact hs
  · exact hs

theorem readNoticesBody (c : Client) (p : List Byte) (hs : P s) : P (readNoticesBody c p s).1 := K.readNotices c hs

theorem openFrame (sen : Bool) (r : Received) (hs : P s) : P (openFrame sen r s) := by
  have hread : P (s.readSen sen r.client) := by
    unfold State.readSen
    split
    · exact K.outside s.link _ s.pending hs
    · exact hs
  rw [openFrame_eq]
  split
  · exact K.writeSlot _ _ hs
  split
  · exact K.writeSlot _ _ hread
  split
  next ho => exact K.openFresh _ (State.isOpen_closeFull _ _) (K.closeFull _ hread)
  next ho => exact K.openFresh _ (by simpa using ho) hread

/-! ### Frames -/

theorem acceptance {body : Body} (hb : ∀ {s} (c : Client) (p : List Byte), s.isOpen c = true → P s → P (body c p s).1)
    (r : Received) (hs : P s) : P (Machine.accept body r s) := by
  unfold Machine.accept
  dsimp only
  split
  · exact K.writeSlot _ _ hs
  next o ho =>
    split
    · exact K.writeSlot _ _ hs
    split
    · exact K.writeSlot _ _ hs
    split
    · exact K.writeSlot _ _ hs
    split
    · exact K.conclude _ _ hs
    split
    · exact K.conclude _ _ hs
    split
    · exact K.conclude _ _ hs
    · exact K.conclude _ _ (hb _ _ (by rw [State.isOpen, ho]; rfl) hs)

theorem link (l : Link) (hs : P s) : P { s with link := l } := K.outside l s.pins s.pending hs

theorem passedBy (hs : P s) : P s.passedBy := by
  rcases s.passedBy_cases with h | h
  · rw [h]; exact K.link _ hs
  · rw [h]; exact hs

theorem frameRow {code : Byte} {take : Received → State → State} (ht : ∀ {s} (r : Received), P s → P (take r s)) (f : Frame)
    (hs : P s) : P (frameRow code take f s) := by
  unfold Machine.frameRow
  split
  · dsimp only
    split
    · exact ht _ (K.link _ hs)
    all_goals exact K.link _ hs
  · exact K.passedBy hs

/-- A frame row whose body keeps the law from an OPEN caller. -/
theorem command {code : Byte} {body : Body} {f : Frame} {t : State}
    (hb : ∀ {s} (c : Client) (p : List Byte), s.isOpen c = true → P s → P (body c p s).1) (hs : P s)
    (ht : (.next (Machine.frameRow code (Machine.accept body) f s) : Host.Outcome State Fault Refusal) = .next t) : P t := by
  obtain rfl := Host.Outcome.next.inj ht
  exact K.frameRow (fun r => K.acceptance hb r) f hs

/-! ### Every command and event of a running part -/

theorem dueEvent (k : Key) (hs : P s) : P (s.dueEvent k) := by
  unfold State.dueEvent
  split
  next h => exact K.deliverFront h.2 hs
  next => exact hs

theorem selectorWrite {addr : BitVec 7} {b : Byte} {t : State} (hs : P s) (ht : execSelectorWrite addr b s = .next t) :
    P t := by
  obtain rfl := Host.Outcome.next.inj ht
  split
  · dsimp only
    split <;> exact K.link _ hs
  · exact K.passedBy hs

theorem frameDiscarded {addr : BitVec 7} {bytes : List Byte} {ended : Bool} {t : State} (hs : P s)
    (ht : execFrameDiscarded addr bytes ended s = .next t) : P t := by
  obtain rfl := Host.Outcome.next.inj ht
  split
  · dsimp only
    split
    iterate 4 exact K.link _ hs
    exact hs
  · exact K.passedBy hs

theorem linkTimeout {x : Option Transfer} {t : State} (hs : P s) (ht : execLinkTimeout x s = .next t) : P t := by
  obtain rfl := Host.Outcome.next.inj ht
  split
  · split <;> exact K.link _ hs
  · exact hs

theorem clockAdvance {lines : Vector Bool 4} {how : Delivery} {t : State} (hs : P s)
    (ht : execClockAdvance lines how s = .next t) : P t := by
  obtain rfl := Host.Outcome.next.inj ht
  split
  · cases how
    · exact K.finishTick (K.tick lines hs)
    · exact K.tick lines hs
  · exact hs

/-- An event that takes a change of level, or does not happen. -/
theorem changeEvent {g : Prop} [Decidable g] {ch : FaultId} {t : State} (hs : P s)
    (ht : (.next (if g then s.levelChange ch else s) : Host.Outcome State Fault Refusal) = .next t) : P t := by
  obtain rfl := Host.Outcome.next.inj ht
  split
  · exact K.levelChange ch hs
  · exact hs

/-- An event that is a sample of a count channel, or does not happen. -/
theorem sampleEvent {g : Prop} [Decidable g] {ch : CountId} {level : Bool} {t : State} (hs : P s)
    (ht : (.next (if g then s.sampleCount ch level else s) : Host.Outcome State Fault Refusal) = .next t) : P t := by
  obtain rfl := Host.Outcome.next.inj ht
  split
  · exact K.sampleCount ch level hs
  · exact hs

omit K in
/-- A body that answers and leaves the state alone. -/
theorem report {body : Body} (h : ∀ c p s, (body c p s).1 = s) {s : State} (c : Client) (p : List Byte)
    (_ : s.isOpen c = true) (hs : P s) : P (body c p s).1 := by rw [h]; exact hs

/-- A running part keeps the law in every command and event but a reset, which puts every block at its reset values. -/
theorem exec {i : Instr} {t : State} (hs : P s) (hrun : s.power = .running) (ht : exec i s = .next t) :
    P t ∨ ∃ p, t = s.cleared p .inReset := by
  cases i with
  | deviceReset cause => cases cause <;> exact .inr ⟨_, (Host.Outcome.next.inj ht).symm⟩
  | rstnRise cause =>
    obtain rfl := Host.Outcome.next.inj ht
    exact .inl (by rw [if_neg (by simp [hrun])]; exact hs)
  | internalStartEnd a1 a0 =>
    obtain rfl := Host.Outcome.next.inj ht
    exact .inl (by rw [if_neg (by simp [hrun])]; exact hs)
  | openSession f sen =>
    obtain rfl := Host.Outcome.next.inj ht
    exact .inl (K.frameRow (fun r => K.openFrame sen r) f hs)
  | unknownCommand f code =>
    obtain rfl := Host.Outcome.next.inj ht
    left
    split
    · exact K.frameRow (fun r => K.acceptance (report fun _ _ _ => rfl) r) f hs
    · exact hs
  | closeSession f => exact .inl (K.command (fun c p _ => K.closeBody c p) hs ht)
  | readNotices f => exact .inl (K.command (fun c p _ => K.readNoticesBody c p) hs ht)
  | setNoticeMask f => exact .inl (K.command K.setNoticeMaskBody hs ht)
  | status f => exact .inl (K.command (report fun _ _ _ => rfl) hs ht)
  | request f => exact .inl (K.command K.requestBody hs ht)
  | release f => exact .inl (K.command K.releaseBody hs ht)
  | renew f => exact .inl (K.command (fun c p _ => K.renewBody c p) hs ht)
  | extend f => exact .inl (K.command (fun c p _ => K.extendBody c p) hs ht)
  | ackEnd f => exact .inl (K.command (fun c p _ => K.ackEndBody c p) hs ht)
  | query f =>
    refine .inl (K.command (report fun c p s => ?_) hs ht)
    unfold queryBody
    repeat' split
    all_goals rfl
  | list f => exact .inl (K.command (report fun _ _ _ => rfl) hs ht)
  | offer f => exact .inl (K.command (fun c p _ => K.offerBody c p) hs ht)
  | accept f => exact .inl (K.command K.acceptBody hs ht)
  | decline f => exact .inl (K.command (fun c p _ => K.declineBody c p) hs ht)
  | withdraw f => exact .inl (K.command (fun c p _ => K.withdrawBody c p) hs ht)
  | readCounts f => exact .inl (K.command (report fun _ _ _ => rfl) hs ht)
  | start f => exact .inl (K.command (fun c p _ => K.startBody c p) hs ht)
  | halt f => exact .inl (K.command (fun c p _ => K.haltBody c p) hs ht)
  | setOutput f => exact .inl (K.command (fun c p _ => K.setOutputBody c p) hs ht)
  | setExclusion f => exact .inl (K.command (fun c p _ => K.setExclusionBody c p) hs ht)
  | setFault f => exact .inl (K.command (fun c p _ => K.setFaultBody c p) hs ht)
  | setCount f => exact .inl (K.command (fun c p _ => K.setCountBody c p) hs ht)
  | setQuota f => exact .inl (K.command (fun c p _ => K.setQuotaBody c p) hs ht)
  | revoke f => exact .inl (K.command (fun c p _ => K.revokeBody c p) hs ht)
  | releaseFault f => exact .inl (K.command (fun c p _ => K.releaseFaultBody c p) hs ht)
  | forceClose f => exact .inl (K.command (fun c p _ => K.forceCloseBody c p) hs ht)
  | faultStatus f => exact .inl (K.command (report fun _ _ _ => rfl) hs ht)
  | readSettings f =>
    refine .inl (K.command (report fun c p s => ?_) hs ht)
    unfold readSettingsBody
    repeat' split
    all_goals rfl
  | selectorWrite addr b => exact .inl (K.selectorWrite hs ht)
  | frameDiscarded addr bytes ended => exact .inl (K.frameDiscarded hs ht)
  | linkTimeout x => exact .inl (K.linkTimeout hs ht)
  | clockAdvance lines how => exact .inl (K.clockAdvance hs ht)
  | leaseExpiry i => exact .inl (Host.Outcome.next.inj ht ▸ K.dueEvent _ hs)
  | offerTimeout i => exact .inl (Host.Outcome.next.inj ht ▸ K.dueEvent _ hs)
  | waitExpiry i => exact .inl (Host.Outcome.next.inj ht ▸ K.dueEvent _ hs)
  | settleEnd o => exact .inl (Host.Outcome.next.inj ht ▸ K.dueEvent _ hs)
  | recoverDue ch => exact .inl (Host.Outcome.next.inj ht ▸ K.dueEvent _ hs)
  | quietDue ch => exact .inl (Host.Outcome.next.inj ht ▸ K.dueEvent _ hs)
  | faultTrip ch => exact .inl (K.changeEvent hs ht)
  | faultClear ch => exact .inl (K.changeEvent hs ht)
  | latchedLevelChange ch => exact .inl (K.changeEvent hs ht)
  | countedEdge ch => exact .inl (K.sampleEvent hs ht)
  | countSample ch level => exact .inl (K.sampleEvent hs ht)

end Kept

/-! ### A part that does not run (R163) -/

theorem frameRow_held {code : Byte} {take : Received → State → State} {f : Frame} {s : State} (h : s.power ≠ .running) :
    frameRow code take f s = s := by
  rw [frameRow_unheard (by simp [State.hears, h]), State.passedBy_held h]

/-- In reset and the internal start every command leaves the part as it is, or at its reset values. -/
theorem exec_of_not_running {i : Instr} {s t : State} (h : s.power ≠ .running) (ht : exec i s = .next t) :
    t = s ∨ ∃ p w l, t = { s.cleared p w with link := l } := by
  have hhear : ∀ addr, s.hears addr = false := fun addr => by simp [State.hears, h]
  cases i with
  | deviceReset cause =>
    cases cause <;> exact .inr ⟨_, _, _, (Host.Outcome.next.inj ht).symm⟩
  | rstnRise cause =>
    have hclear : ∀ p : Pins, ∃ p' w l,
        (if p.rstn = true ∧ p.vdd = true then s.cleared p .starting else s.cleared p .inReset) =
          { s.cleared p' w with link := l } := fun p => by
      split
      · exact ⟨p, .starting, Link.reset, rfl⟩
      · exact ⟨p, .inReset, Link.reset, rfl⟩
    rw [← Host.Outcome.next.inj ht]
    dsimp only
    split
    · exact .inr (hclear _)
    · exact .inl rfl
  | internalStartEnd a1 a0 =>
    obtain rfl := Host.Outcome.next.inj ht
    split
    · exact .inr ⟨_, _, _, rfl⟩
    · exact .inl rfl
  | selectorWrite addr b =>
    obtain rfl := Host.Outcome.next.inj ht
    exact .inl (by rw [if_neg (by simp [hhear]), State.passedBy_held h])
  | frameDiscarded addr bytes ended =>
    obtain rfl := Host.Outcome.next.inj ht
    exact .inl (by rw [if_neg (by simp [hhear]), State.passedBy_held h])
  | unknownCommand f code =>
    obtain rfl := Host.Outcome.next.inj ht
    exact .inl (by rw [frameRow_held h, ite_self])
  | linkTimeout x => exact .inl ((Host.Outcome.next.inj ht).symm.trans (if_neg h))
  | clockAdvance lines how => exact .inl ((Host.Outcome.next.inj ht).symm.trans (if_neg h))
  | leaseExpiry _ | offerTimeout _ | waitExpiry _ | settleEnd _ | recoverDue _ | quietDue _ | faultTrip _ | faultClear _
  | latchedLevelChange _ | countedEdge _ | countSample _ _ =>
    exact .inl ((Host.Outcome.next.inj ht).symm.trans (if_neg fun hg => h hg.1))
  | _ => exact .inl ((Host.Outcome.next.inj ht).symm.trans (frameRow_held h))

/-- A law that holds at the reset values and does not read the queue of commands is kept by every step, when a running part
has it together with something that every operation keeps. -/
theorem Kept.step_of {P Q : State → Prop} (K : Kept P) (hin : ∀ {s}, s.power = .running → Q s → P s)
    (hout : ∀ {s}, P s → Q s) (hpending : ∀ {s : State} (q : List Instr), Q s → Q { s with pending := q })
    (hreset : ∀ (s : State) p w l, Q { s.cleared p w with link := l }) {s t : State} (hs : Q s) (ht : step s = .next t) :
    Q t := by
  unfold Machine.step at ht
  split at ht
  · exact Host.Outcome.next.inj ht ▸ hs
  next c rest hc =>
    have hexec : ∀ u : State, Q u → Machine.exec c u = .next t → Q t := by
      intro u hu hut
      by_cases hrun : u.power = .running
      · rcases K.exec (hin hrun hu) hrun hut with h | ⟨p, h⟩
        · exact hout h
        · rw [h]; exact hreset u p .inReset Link.reset
      · rcases exec_of_not_running hrun hut with h | ⟨p, w, l, h⟩
        · rw [h]; exact hu
        · rw [h]; exact hreset u p w l
    exact hexec _ (hpending rest hs) ht

/-- A law that every operation keeps and that holds at the reset values is kept by every step. -/
theorem Kept.step {P : State → Prop} (K : Kept P) (hreset : ∀ (s : State) p w l, P { s.cleared p w with link := l })
    {s t : State} (hs : P s) (ht : step s = .next t) : P t :=
  K.step_of (fun _ h => h) (fun h => h) (fun {s} q h => K.outside s.link s.pins q h) hreset hs ht

end Sys2Proof.Machine
end

section
/-! SUPPORT. Laws that read neither the clock nor the expiry queue nor the channel records: what such a law needs of the
operations, fewer and simpler than `Kept` lists, since deliveries and changes of level are then made of the same few. -/

namespace Sys2Proof.Machine

/-! ### Sets of outputs -/

theorem outputSet_ne_zero {S : OutputSet} : S ≠ 0 ↔ ∃ o : OutputId, S.getLsbD o = true := by
  constructor
  · intro h
    by_contra hno
    refine h (BitVec.eq_of_getLsbD_eq fun i hi => ?_)
    have := not_exists.mp hno ⟨i, hi⟩
    simpa using this
  · rintro ⟨o, ho⟩ rfl
    simp at ho

theorem outputSet_and_ne_zero {S T : OutputSet} :
    S &&& T ≠ 0 ↔ ∃ o : OutputId, S.getLsbD o = true ∧ T.getLsbD o = true := by
  simp only [outputSet_ne_zero, BitVec.getLsbD_and, Bool.and_eq_true]

/-! ### Holders -/

theorem State.slotHolds_iff {s : State} {o : OutputId} {i : SlotId} :
    s.slotHolds o i = true ↔ ∃ l, s.leaseAt i = some l ∧ l.phase.isLive = true ∧ l.outputs.getLsbD o = true := by
  unfold State.slotHolds
  cases s.leaseAt i <;> simp [Lease.holds]

theorem State.held_iff {s : State} {o : OutputId} : s.held o = true ↔ ∃ i, s.slotHolds o i = true := by
  simp [State.held]

theorem State.held_eq_false {s : State} {o : OutputId} : s.held o = false ↔ ∀ i, s.slotHolds o i = false := by
  simp [State.held]

theorem State.cutLease_iff {s : State} {S : OutputSet} {i : SlotId} :
    s.cutLease S i = true ↔ ∃ l, s.leaseAt i = some l ∧ l.phase.isLive = true ∧ l.outputs &&& S ≠ 0 := by
  unfold State.cutLease
  cases s.leaseAt i <;> simp

/-- Once every live lease on the set has ended, no output of the set has a holder (R124, steps 3 and 4). -/
theorem State.held_after_ends {s : State} {S : OutputSet} {o : OutputId} (ho : S.getLsbD o = true) (why : EndReason)
    (d : Option FaultId) :
    (((List.finRange 32).filter (s.cutLease S)).foldl (fun u i => u.endLease i why d) s).held o = false := by
  rw [State.held_eq_false]
  intro i
  rw [Bool.eq_false_iff]
  intro hh
  obtain ⟨l, hl, hlive, hlo⟩ := State.slotHolds_iff.mp hh
  rw [State.leaseAt_foldl_endLease why d ((List.nodup_finRange 32).filter _)] at hl
  by_cases hi : i ∈ (List.finRange 32).filter (s.cutLease S)
  · rw [if_pos hi] at hl
    obtain ⟨m, -, rfl⟩ := Option.map_eq_some_iff.mp hl
    simp [(m.afterEnd_inactive why s.clock d).2] at hlive
  · rw [if_neg hi] at hl
    refine hi (List.mem_filter.mpr ⟨List.mem_finRange i, State.cutLease_iff.mpr ⟨l, hl, hlive, ?_⟩⟩)
    exact outputSet_and_ne_zero.mpr ⟨o, hlo, ho⟩

/-! ### The trip in parts -/

/-- The trip but for its notice and its review (R124). -/
def State.tripBase (s : State) (ch : FaultId) (x : FaultChannel) : State :=
  let count := x.tripCount + 1
  let t := (s.putFault ch { x with tripCount := count }).unscheduleFault ch
  let t := ((List.finRange 32).filter (t.cutLease x.cutSet)).foldl (fun u i => u.endLease i .fault (some ch)) t
  ((members x.cutSet).foldl (cutOutput ch) t).putFault ch
    { x with tripCount := count, state := if count = x.latchLimit then .latched else .tripped }

/-- The trip is its base, the notice for the supervisor and, where one is asked for, a review. -/
theorem trip_eq (s : State) (ch : FaultId) (x : FaultChannel) :
    ∃ b, s.trip ch x = ((s.tripBase ch x).notify 0 .fault).reviewIf b := ⟨_, rfl⟩

/-- What the change of a filtered level comes to (R122): a trip, a clear, or the level alone. -/
theorem levelChange_cases (s : State) (ch : FaultId) :
    let y := { s.fault ch with filtered := !(s.fault ch).filtered, run := 0, changeDue := false }
    (((s.fault ch).state = .idle ∨ (s.fault ch).state = .recovering) ∧ (s.fault ch).filtered = false ∧
        s.levelChange ch = s.trip ch y) ∨
      ((s.fault ch).state = .tripped ∧ (s.fault ch).filtered = true ∧
        s.levelChange ch = (s.putFault ch { y with state := .recovering }).schedule (.recover ch) (s.fault ch).recoveryDelay) ∨
      (¬(((s.fault ch).state = .idle ∨ (s.fault ch).state = .recovering) ∧ (s.fault ch).filtered = false) ∧
        ¬((s.fault ch).state = .tripped ∧ (s.fault ch).filtered = true) ∧ s.levelChange ch = s.putFault ch y) := by
  unfold State.levelChange
  dsimp only
  cases hs : (s.fault ch).state <;> cases hf : (s.fault ch).filtered <;> simp

/-! ### The laws -/

/-- A lease keeps its claim on its outputs and who it is between: what RENEW, EXTEND, a charge and the end of an offer leave. -/
structure Lease.SameClaim (l m : Lease) : Prop where
  holder : m.holder = l.holder
  outputs : m.outputs = l.outputs
  kind : m.kind = l.kind
  live : m.phase.isLive = l.phase.isLive
  waiting : m.phase.isWaiting = l.phase.isWaiting
  receiver : m.phase.receiver = none ∨ m.phase.receiver = l.phase.receiver

/-- The law `P` reads no clock, no expiry queue and no channel record, and every operation keeps it. -/
structure Untimed (P : State → Prop) : Prop where
  outside : ∀ {s} (clock : Tick) (expiry : List Entry) (counts : Vector CountChannel 4) (faults : Vector FaultChannel 4)
    (l : Link) (p : Pins) (q : List Instr), P s →
    P { s with clock := clock, expiry := expiry, counts := counts, faults := faults, link := l, pins := p, pending := q }
  writeSlot : ∀ {s} (c : Client) (x : Response), P s → P (s.writeSlot c x)
  conclude : ∀ {s} (r : Received) (a : Reply), P s → P (s.conclude r a)
  notify : ∀ {s} (c : Client) (k : Notice), P s → P (s.notify c k)
  freeSlot : ∀ {s} (i : SlotId), P s → P (s.freeSlot i)
  endLease : ∀ {s} (i : SlotId) (why : EndReason) (d : Option FaultId), P s → P (s.endLease i why d)
  grantWaiting : ∀ {s i l ahead}, s.leaseAt i = some l → l.phase.isWaiting = true →
    s.admissible ahead l.outputs l.kind = true → P s → P (s.grantWaiting i l)
  relabel : ∀ {s i l m}, s.leaseAt i = some l → l.SameClaim m → P s → P (s.putLease i (some m))
  setOutcome : ∀ {s c} (h : Handle) (o : Outcome), s.isOpen c = true ∨ (∃ i, s.heldBy c i = true) → P s →
    P (s.setOutcome c h o)
  ackEnd : ∀ {s i l}, s.leaseAt i = some l → l.phase.isWaiting = false → l.phase.isLive = false → P s →
    P (s.putLease i none)
  grantNew : ∀ {s c r k i}, s.isOpen c = true → StaticallyFit s c r k i → s.admissible s.waitQueue r.outputs k = true →
    P s → P (s.grantNew c r k i).1
  queueNew : ∀ {s c r k i}, s.isOpen c = true → StaticallyFit s c r k i → s.waitQueue.length < Config.queueCapacity → P s →
    P (s.queueNew c r k i).1
  offer : ∀ {s i l ga d r od}, s.leaseAt i = some l → l.phase = .live ga d → s.isOpen r = true → r ≠ l.holder → P s →
    P (s.putLease i (some { l with phase := .offered ga d r od }))
  accept : ∀ {s i l ga d c od h}, s.leaseAt i = some l → l.phase = .offered ga d c od → s.isOpen c = true →
    s.occupied c < (s.session c).quota → P s →
    P ((s.putLease i (some { l with holder := c, phase := .live ga d })).setOutcome l.holder h .accepted)
  start : ∀ {s}, s.mode = .setup → P s → P { s with mode := .run }
  halt : ∀ {s}, (∀ i, s.liveAt i = false) → (∀ i ∈ s.waitQueue, s.waitingAt i = false) → P s → P { s with mode := .setup }
  setOutput : ∀ {s} (o : OutputId) (m g : Nat) (d : Drive), P s →
    P (s.putOutput o { s.output o with maxTerm := m, gap := g, drive := d })
  setPair : ∀ {s a b} (p : Bool), s.mode = .setup → a ≠ b → P s → P (s.setPair a b p)
  setQuota : ∀ {s c q}, s.occupied c ≤ q → P s → P (s.putSession c { s.session c with quota := q })
  setMask : ∀ {s c} (m : NoticeSet), s.isOpen c = true → P s →
    P (s.putSession c { s.session c with mask := m }).updateAtn
  readNotices : ∀ {s} (c : Client), P s → P (s.putSession c { s.session c with notices := 0 }).updateAtn
  openFresh : ∀ {s} (r : Received), s.isOpen r.client = false → P s → P (s.openFresh r)
  closeRecord : ∀ {s c}, (∀ i, s.heldBy c i = false ∧ s.giverTo c i = none) → P s → P (s.closeRecord c)
  settleOff : ∀ {s o}, (s.output o).state = .settle → P s → P (s.putOutput o { s.output o with state := .off })
  uncutOutput : ∀ {s} (ch : FaultId) (o : OutputId), P s → P (uncutOutput ch s o)
  cutOutput : ∀ {s o} (ch : FaultId), s.held o = false → P s → P (cutOutput ch s o)

namespace Untimed

variable {P : State → Prop} (U : Untimed P) {s : State}

include U

theorem expiry (q : List Entry) (hs : P s) : P { s with expiry := q } :=
  U.outside s.clock q s.counts s.faults s.link s.pins s.pending hs

theorem faults (f : Vector FaultChannel 4) (hs : P s) : P { s with faults := f } :=
  U.outside s.clock s.expiry s.counts f s.link s.pins s.pending hs

theorem review (hs : P s) : P s.review := reviewFrom_keeps U.grantWaiting _ _ hs

theorem reviewIf (b : Bool) (hs : P s) : P (s.reviewIf b) := by
  cases b
  · exact hs
  · exact U.review hs

theorem resolveOffer (i : SlotId) (o : Outcome) (hs : P s) : P (s.resolveOffer i o) := by
  cases ho : s.offeredAt i with
  | false => rw [resolveOffer_of_not_offered ho]; exact hs
  | true =>
    obtain ⟨l, ga, d, r, od, hl, hp⟩ := State.offeredAt_iff.mp ho
    rw [resolveOffer_of_offered hl hp]
    have hl' : (s.unschedule (.offer i)).leaseAt i = some l := hl
    refine U.setOutcome _ _ (.inr ⟨i, ?_⟩) (U.relabel hl' ⟨rfl, rfl, rfl, ?_, ?_, .inl rfl⟩ (U.expiry _ hs))
    · exact State.heldBy_iff.mpr ⟨{ l with phase := .live ga d }, by rw [State.leaseAt_putLease, if_pos rfl], rfl⟩
    · rw [hp]; rfl
    · rw [hp]; rfl

theorem chargeSlot (ch : CountId) (i : SlotId) (hs : P s) : P (chargeSlot ch s i) := by
  unfold Machine.chargeSlot
  split
  · exact hs
  next l k hb =>
    have hl : s.leaseAt i = some l := by
      unfold State.boundTo at hb
      split at hb
      · simp at hb
      next m hm =>
        split at hb
        · simp at hb
        · split at hb
          · obtain ⟨rfl, -⟩ := Prod.mk.inj (Option.some.inj hb); exact hm
          · simp at hb
    have hrel := U.relabel hl (m := { l with count := some { k with spent := k.spent + 1 } })
      ⟨rfl, rfl, rfl, rfl, rfl, .inr rfl⟩ hs
    dsimp only
    split
    · exact U.endLease _ _ _ hrel
    · exact hrel

theorem uncut (ch : FaultId) (os : List OutputId) (hs : P s) : P (s.uncut ch os) :=
  Kept.foldl (fun o => U.uncutOutput ch o) os hs

/-- The trip ends the leases on the cut set first, so each output is cut with no holder left. -/
theorem tripBase (ch : FaultId) (x : FaultChannel) (hs : P s) : P (s.tripBase ch x) := by
  have hcut : ∀ (L : List OutputId) {t : State}, (∀ o ∈ L, t.held o = false) → P t → P (L.foldl (Machine.cutOutput ch) t) := by
    intro L
    induction L with
    | nil => exact fun _ ht => ht
    | cons o L ih =>
      intro t hL ht
      refine ih (fun p hp => ?_) (U.cutOutput ch (hL o List.mem_cons_self) ht)
      have hslots : (Machine.cutOutput ch t o).slots = t.slots := by unfold Machine.cutOutput; dsimp only; split <;> rfl
      rw [State.held_congr hslots]
      exact hL p (List.mem_cons_of_mem o hp)
  refine U.faults _ (hcut _ (fun o ho => ?_) (Kept.foldl (fun i => U.endLease i _ _) _ (U.expiry _ (U.expiry _ (U.faults _ hs)))))
  exact State.held_after_ends (mem_members.mp ho) _ _

theorem levelChange (ch : FaultId) (hs : P s) : P (s.levelChange ch) := by
  rcases levelChange_cases s ch with ⟨-, -, h⟩ | ⟨-, -, h⟩ | ⟨-, -, h⟩
  · obtain ⟨b, hb⟩ := trip_eq s ch
      { s.fault ch with filtered := !(s.fault ch).filtered, run := 0, changeDue := false }
    rw [h, hb]
    exact U.reviewIf b (U.notify 0 _ (U.tripBase ch _ hs))
  · rw [h]; exact U.expiry _ (U.faults _ hs)
  · rw [h]; exact U.faults _ hs

theorem deliver (k : Key) (hs : P s) : P (s.deliver k) := by
  cases k with
  | lease i =>
    show P (s.leaseDue i)
    unfold State.leaseDue
    split
    · split
      · exact U.review (U.endLease _ _ _ hs)
      · exact hs
    · exact hs
  | wait i =>
    show P (s.waitDue i)
    unfold State.waitDue
    split
    · split
      · exact U.review (U.endLease _ _ _ hs)
      · exact hs
    · exact hs
  | offer i =>
    show P (s.offerDue i)
    unfold State.offerDue
    split
    · split
      · exact U.notify _ _ (U.resolveOffer _ _ hs)
      all_goals exact hs
    · exact hs
  | settle o =>
    show P (s.settleDue o)
    unfold State.settleDue
    split
    next h => exact U.review (U.settleOff h hs)
    next => exact hs
  | recover ch =>
    show P (s.recoverDue ch)
    unfold State.recoverDue
    split
    · exact U.reviewIf _ (U.notify _ _ (U.expiry _ (U.uncut _ _ (U.faults _ hs))))
    · exact hs
  | quiet ch =>
    show P (s.quietDue ch)
    unfold State.quietDue
    split
    · exact U.faults _ hs
    · exact hs

theorem finishTick (hs : P s) : P s.finishTick := by
  have hdue : ∀ (n : Nat) {t : State}, P t → P (deliverDue n t) := by
    intro n
    induction n with
    | zero => exact fun ht => ht
    | succ n ih =>
      intro t ht
      unfold deliverDue
      split
      · exact ht
      · split
        · exact ih (U.deliver _ (U.expiry _ ht))
        · exact ht
  refine Kept.foldl (fun {t} ch ht => ?_) _ (hdue _ hs)
  split
  · exact U.levelChange ch ht
  · exact ht

/-- So a law of this kind is kept by everything `Kept` lists. -/
theorem kept : Kept P where
  outside l p q hs := U.outside _ _ _ _ l p q hs
  writeSlot := U.writeSlot
  conclude := U.conclude
  notify := U.notify
  freeSlot := U.freeSlot
  endLease := U.endLease
  grantWaiting := U.grantWaiting
  resolveOffer := U.resolveOffer
  setOutcome h o hc := U.setOutcome h o (.inl hc)
  ackEnd := U.ackEnd
  grantNew hc hfit _ := U.grantNew hc hfit
  queueNew hc hfit _ _ := U.queueNew hc hfit
  renew {s i l n} hl hlive _ _ hs := by
    refine U.expiry _ (U.expiry _ (U.relabel hl ⟨rfl, rfl, rfl, ?_, ?_, ?_⟩ hs)) <;>
      cases hp : l.phase <;> simp [Phase.isLive, Phase.isWaiting, Phase.receiver, Phase.withDeadline]
  extend hl _ _ _ _ hs := U.relabel hl ⟨rfl, rfl, rfl, rfl, rfl, .inr rfl⟩ hs
  offer hl hp ho hr _ _ hs := U.expiry _ (U.offer hl hp ho hr hs)
  accept {s i} _ _ _ _ _ hl hp ho hq hs := U.accept (s := s.unschedule (.offer i)) hl hp ho hq (U.expiry _ hs)
  start := U.start
  halt := U.halt
  setOutput o m g d _ _ := U.setOutput o m g d
  setPair := U.setPair
  putCount {s} ch x hs := U.outside s.clock s.expiry (s.counts.set ch x) s.faults s.link s.pins s.pending hs
  setQuota := U.setQuota
  setMask := U.setMask
  readNotices := U.readNotices
  openFresh := U.openFresh
  closeRecord := U.closeRecord
  chargeSlot := U.chargeSlot
  restartFault ch _ hs := U.faults _ (U.uncut ch _ (U.expiry _ (U.expiry _ hs)))
  releaseFault _ _ hs := U.uncut _ _ (U.faults _ hs)
  levelChange := U.levelChange
  deliverFront _ hs := U.deliver _ (U.expiry _ hs)
  tick {s} lines hs :=
    U.outside (s := s.finishTick) (s.finishTick.clock + 1) s.finishTick.expiry s.finishTick.counts _ s.finishTick.link
      { s.finishTick.pins with fault := lines } s.finishTick.pending (U.finishTick hs)

end Untimed

end Sys2Proof.Machine
end

section
/-! SUPPORT. Who holds the leases: every operation but the taking of a slot and ACCEPT leaves each lease with the holder and
the receiver it had, or frees it. On this rest the law of the quotas (R50, R110) and the law of the CLOSED sessions
(R5, R141). -/

namespace Sys2Proof.Machine

/-! ### Leases that keep their holders -/

/-- Every lease of `t` was in its slot in `s`, with the same holder and no other receiver. -/
def Descends (s t : State) : Prop :=
  ∀ i m, t.leaseAt i = some m → ∃ l, s.leaseAt i = some l ∧ m.holder = l.holder ∧
    (m.phase.receiver = none ∨ m.phase.receiver = l.phase.receiver)

theorem Descends.of_slots {s t : State} (h : t.slots = s.slots) : Descends s t := fun i m hm =>
  ⟨m, by rw [← State.leaseAt_congr h]; exact hm, rfl, .inr rfl⟩

/-- One slot rewritten with a lease that keeps holder and receiver, or freed. -/
theorem Descends.of_set {s t : State} {i : SlotId} {x : Option Lease}
    (ht : ∀ j, t.leaseAt j = if i = j then x else s.leaseAt j)
    (hx : ∀ m, x = some m → ∃ l, s.leaseAt i = some l ∧ m.holder = l.holder ∧
      (m.phase.receiver = none ∨ m.phase.receiver = l.phase.receiver)) : Descends s t := by
  intro j m hm
  rw [ht] at hm
  by_cases hij : i = j
  · subst hij; exact hx m (by simpa using hm)
  · exact ⟨m, by simpa [hij] using hm, rfl, .inr rfl⟩

theorem freeSlot_descends (s : State) (i : SlotId) : Descends s (s.freeSlot i) :=
  .of_set (s.leaseAt_freeSlot i) (by simp)

theorem endLease_descends (s : State) (i : SlotId) (why : EndReason) (d : Option FaultId) :
    Descends s (s.endLease i why d) := by
  refine .of_set (fun j => s.leaseAt_endLease i j why d) fun m hm => ?_
  obtain ⟨l, hl, rfl⟩ := Option.map_eq_some_iff.mp hm
  refine ⟨l, hl, ?_⟩
  unfold Lease.afterEnd
  split
  · exact ⟨rfl, .inl rfl⟩
  · exact ⟨rfl, .inr rfl⟩

theorem grantWaiting_descends {s : State} {i : SlotId} {l : Lease} (hl : s.leaseAt i = some l) :
    Descends s (s.grantWaiting i l) := by
  refine .of_set (fun j => s.leaseAt_grantWaiting i j l) fun m hm => ⟨l, hl, ?_⟩
  obtain rfl := Option.some.inj hm
  exact ⟨rfl, .inl rfl⟩

theorem relabel_descends {s : State} {i : SlotId} {l m : Lease} (hl : s.leaseAt i = some l) (h : l.SameClaim m) :
    Descends s (s.putLease i (some m)) := by
  refine .of_set (fun j => s.leaseAt_putLease i j (some m)) fun m' hm => ⟨l, hl, ?_⟩
  obtain rfl := Option.some.inj hm
  exact ⟨h.holder, h.receiver⟩

/-! ### Quotas -/

theorem Descends.heldBy {s t : State} (h : Descends s t) {c : Client} {i : SlotId} (ht : t.heldBy c i = true) :
    s.heldBy c i = true := by
  obtain ⟨m, hm, rfl⟩ := State.heldBy_iff.mp ht
  obtain ⟨l, hl, hh, -⟩ := h i m hm
  exact State.heldBy_iff.mpr ⟨l, hl, hh.symm⟩

/-- A client that gains at most the slot `i` occupies at most one slot more. -/
theorem State.occupied_le_succ {s t : State} {c : Client} {i : SlotId}
    (h : ∀ j, t.heldBy c j = true → j = i ∨ s.heldBy c j = true) : t.occupied c ≤ s.occupied c + 1 := by
  have hsub : t.slotsOf c ⊆ i :: s.slotsOf c := by
    intro j hj
    simp only [State.slotsOf, List.mem_filter, List.mem_finRange, true_and, List.mem_cons] at hj ⊢
    exact h j hj
  exact (((List.nodup_finRange 32).filter _).subperm hsub).length_le

theorem Descends.occupied_le {s t : State} (h : Descends s t) (c : Client) : t.occupied c ≤ s.occupied c := by
  have hsub : t.slotsOf c ⊆ s.slotsOf c := by
    intro j hj
    simp only [State.slotsOf, List.mem_filter, List.mem_finRange, true_and] at hj ⊢
    exact h.heldBy hj
  exact (((List.nodup_finRange 32).filter _).subperm hsub).length_le

theorem Descends.quotaLaw {s t : State} (h : Descends s t) (hq : ∀ c, (t.session c).quota = (s.session c).quota)
    (hs : s.QuotaLaw) : t.QuotaLaw := fun c => by
  rw [hq]
  exact (h.occupied_le c).trans (hs c)

/-- A new lease of client `c` in slot `i`, which has a place in its quota for it. -/
theorem quotaLaw_of_gain {s t : State} {c : Client} {i : SlotId} {m : Lease}
    (ht : ∀ j, t.leaseAt j = if i = j then some m else s.leaseAt j) (hm : m.holder = c)
    (hq : ∀ c, (t.session c).quota = (s.session c).quota) (hfit : s.occupied c < (s.session c).quota) (hs : s.QuotaLaw) :
    t.QuotaLaw := by
  have hheld : ∀ d j, t.heldBy d j = true → (j = i ∧ d = c) ∨ s.heldBy d j = true := by
    intro d j hj
    obtain ⟨l, hl, rfl⟩ := State.heldBy_iff.mp hj
    rw [ht] at hl
    by_cases hij : i = j
    · rw [if_pos hij] at hl
      obtain rfl := Option.some.inj hl
      exact .inl ⟨hij.symm, hm⟩
    · rw [if_neg hij] at hl
      exact .inr (State.heldBy_iff.mpr ⟨l, hl, rfl⟩)
  intro d
  rw [hq]
  by_cases hd : d = c
  · subst hd
    have := State.occupied_le_succ (s := s) (t := t) (c := d) (i := i) fun j hj => (hheld d j hj).imp_left And.left
    omega
  · have hsub : t.slotsOf d ⊆ s.slotsOf d := by
      intro j hj
      simp only [State.slotsOf, List.mem_filter, List.mem_finRange, true_and] at hj ⊢
      exact (hheld d j hj).resolve_left fun h => hd h.2
    exact (((List.nodup_finRange 32).filter _).subperm hsub).length_le.trans (hs d)

theorem quota_putSession {s : State} {c : Client} {x : Session} (h : x.quota = (s.session c).quota) (d : Client) :
    ((s.putSession c x).session d).quota = (s.session d).quota := by
  rw [s.session_putSession]
  split
  next hcd => rw [h, hcd]
  next => rfl

/-- An update that leaves the slots and the quotas. -/
theorem quotaLaw_congr {s t : State} (hslots : t.slots = s.slots) (hq : ∀ c, (t.session c).quota = (s.session c).quota)
    (hs : s.QuotaLaw) : t.QuotaLaw := (Descends.of_slots hslots).quotaLaw hq hs

theorem quotaLaw_putSession {s : State} (c : Client) (x : Session) (h : x.quota = (s.session c).quota) (hs : s.QuotaLaw) :
    (s.putSession c x).QuotaLaw := quotaLaw_congr (s := s) rfl (quota_putSession h) hs

theorem quotaLaw_updateAtn {s : State} (hs : s.QuotaLaw) : s.updateAtn.QuotaLaw := hs

/-- The session record that OPEN writes (R143). -/
def State.freshSession (s : State) (r : Received) : Session :=
  let e := nextEpoch (s.session r.client).epoch
  let answer : Response := { client := r.client, epoch := e, seq := r.seq, code := r.code, status := .ok, results := [e] }
  { s.session r.client with
    opened := some { lastSeq := r.seq, cache := answer }, epoch := e, response := some answer, notices := 0
    mask := allNotices, outcome := none }

theorem openFresh_eq (s : State) (r : Received) : s.openFresh r = (s.putSession r.client (s.freshSession r)).updateAtn := rfl

theorem leaseAt_grantNew (s : State) (c : Client) (r : RequestParams) (k : Kind) (i j : SlotId) :
    (s.grantNew c r k i).1.leaseAt j =
      if i = j then some (r.lease c k (.live s.clock (s.after r.term))) else s.leaseAt j := by
  refine State.leaseAt_of_set (x := ⟨nextGeneration (s.slot i).generation, _⟩) ?_ j
  rw [grantNew_fst, recomputeAll_slots]
  rfl

theorem leaseAt_queueNew (s : State) (c : Client) (r : RequestParams) (k : Kind) (i j : SlotId) :
    (s.queueNew c r k i).1.leaseAt j =
      if i = j then some (r.lease c k (.waiting (s.after r.wait))) else s.leaseAt j :=
  State.leaseAt_of_set (x := ⟨nextGeneration (s.slot i).generation, _⟩) rfl j

theorem grantNew_sessions (s : State) (c : Client) (r : RequestParams) (k : Kind) (i : SlotId) :
    (s.grantNew c r k i).1.sessions = s.sessions := by
  rw [grantNew_fst, recomputeAll_sessions]
  rfl

theorem uncutOutput_slots (ch : FaultId) (s : State) (o : OutputId) : (uncutOutput ch s o).slots = s.slots := rfl

theorem cutOutput_slots (ch : FaultId) (s : State) (o : OutputId) : (cutOutput ch s o).slots = s.slots := by
  unfold cutOutput; dsimp only; split <;> rfl

theorem cutOutput_sessions (ch : FaultId) (s : State) (o : OutputId) : (cutOutput ch s o).sessions = s.sessions := by
  unfold cutOutput; dsimp only; split <;> rfl

theorem setPair_slots (s : State) (a b : OutputId) (p : Bool) : (s.setPair a b p).slots = s.slots := by
  unfold State.setPair; split <;> rfl

theorem setPair_sessions (s : State) (a b : OutputId) (p : Bool) : (s.setPair a b p).sessions = s.sessions := by
  unfold State.setPair; split <;> rfl

/-- The operations against the quotas: a slot is gained by REQUEST and ACCEPT alone, each after its quota check. -/
theorem quotaLaw_untimed : Untimed State.QuotaLaw where
  outside _ _ _ _ _ _ _ hs := hs
  writeSlot c _ hs := quotaLaw_putSession c _ rfl hs
  conclude r _ hs := quotaLaw_putSession r.client _ rfl hs
  notify {s} c k hs := quotaLaw_congr (notify_slots s c k) (notify_spares s c k).quota hs
  freeSlot {s} i hs := (freeSlot_descends s i).quotaLaw (freeSlot_spares s i).quota hs
  endLease {s} i why d hs := (endLease_descends s i why d).quotaLaw (endLease_spares s i why d).quota hs
  grantWaiting {s i l _} hl _ _ hs := (grantWaiting_descends hl).quotaLaw (grantWaiting_spares s i l).quota hs
  relabel {s i _ m} hl h hs := (relabel_descends hl h).quotaLaw (putLease_spares s i (some m)).quota hs
  setOutcome {_ c} _ _ _ hs := quotaLaw_putSession c _ rfl hs
  ackEnd {s i _} _ _ _ hs :=
    (Descends.of_set (s.leaseAt_putLease i · none) (by simp)).quotaLaw (putLease_spares s i none).quota hs
  grantNew {s c r k i} _ hfit _ hs := by
    refine quotaLaw_of_gain (leaseAt_grantNew s c r k i) rfl (fun d => ?_) hfit.quota hs
    rw [State.session_congr (grantNew_sessions s c r k i)]
  queueNew {s c r k i} _ hfit _ hs := quotaLaw_of_gain (leaseAt_queueNew s c r k i) rfl (fun _ => rfl) hfit.quota hs
  offer {s i l ga d r od} hl _ _ _ hs := by
    intro c
    have hle : ∀ {t : State}, (∀ j, t.heldBy c j = true → s.heldBy c j = true) → t.occupied c ≤ s.occupied c := by
      intro t ht
      refine (((List.nodup_finRange 32).filter _).subperm fun j hj => ?_).length_le
      simp only [State.slotsOf, List.mem_filter, List.mem_finRange, true_and] at hj ⊢
      exact ht j hj
    refine (hle (t := s.putLease i _) fun j hj => ?_).trans (hs c)
    obtain ⟨m, hm, rfl⟩ := State.heldBy_iff.mp hj
    rw [s.leaseAt_putLease] at hm
    split at hm
    next hij =>
      obtain rfl := Option.some.inj hm
      exact State.heldBy_iff.mpr ⟨l, hij ▸ hl, rfl⟩
    next => exact State.heldBy_iff.mpr ⟨m, hm, rfl⟩
  accept {s i l ga d c od h} _ _ _ hq hs :=
    quotaLaw_of_gain (s.leaseAt_putLease i · (some { l with holder := c, phase := .live ga d })) rfl
      (quota_putSession (s := s.putLease i (some { l with holder := c, phase := .live ga d })) (c := l.holder) rfl) hq hs
  start _ hs := hs
  halt _ _ hs := hs
  setOutput _ _ _ _ hs := hs
  setPair {s a b} p _ _ hs :=
    quotaLaw_congr (setPair_slots s a b p) (fun c => by rw [State.session_congr (setPair_sessions s a b p)]) hs
  setQuota {s c q} hq hs := by
    intro d
    have hocc : (s.putSession c { s.session c with quota := q }).occupied d = s.occupied d := rfl
    rw [hocc, s.session_putSession]
    split
    next hcd => exact hcd ▸ hq
    next => exact hs d
  setMask {_ c} _ _ hs := quotaLaw_updateAtn (quotaLaw_putSession c _ rfl hs)
  readNotices c hs := quotaLaw_updateAtn (quotaLaw_putSession c _ rfl hs)
  openFresh {s} r _ hs := quotaLaw_updateAtn (quotaLaw_putSession r.client (s.freshSession r) rfl hs)
  closeRecord {_ c} _ hs := quotaLaw_updateAtn (quotaLaw_putSession c _ rfl hs)
  settleOff _ hs := hs
  uncutOutput _ _ hs := hs
  cutOutput {s o} ch _ hs :=
    quotaLaw_congr (cutOutput_slots ch s o) (fun c => by rw [State.session_congr (cutOutput_sessions ch s o)]) hs

/-! ### The table and the sessions after a reset -/

/-- After a reset every slot is FREE (R2). -/
theorem State.leaseAt_of_reset {t : State} (h : t.slots = State.reset.slots) (i : SlotId) : t.leaseAt i = none := by
  simp [State.leaseAt, State.slot, h, State.reset, Slot.reset]

/-- After a reset every session is at its reset values (R140). -/
theorem State.session_of_reset {t : State} (h : t.sessions = State.reset.sessions) (c : Client) :
    t.session c = Session.reset c := by
  simp [State.session, h, State.reset]

theorem quotaLaw_of_reset {t : State} (h : t.slots = State.reset.slots) : t.QuotaLaw := fun c => by
  have : t.heldBy c = fun _ => false := funext fun i => by rw [State.heldBy, State.leaseAt_of_reset h]
  simp [State.occupied, State.slotsOf, this]

/-- Settles O59: a slot is gained only after a quota check, and SET_QUOTA goes no lower than what is occupied. -/
theorem stepKeepsTheQuotas : Obligations.StepKeepsTheQuotas := by
  unfold Obligations.StepKeepsTheQuotas
  exact fun s t hs ht => quotaLaw_untimed.kept.step (fun _ _ _ _ => quotaLaw_of_reset rfl) hs ht

/-! ### CLOSED sessions -/

/-- The law of the CLOSED sessions from the leases' side: holders and receivers are OPEN, no offer is made to its giver, and
a CLOSED session has nothing pending (R5, R141). -/
structure Manned (s : State) : Prop where
  holder : ∀ {i l}, s.leaseAt i = some l → s.isOpen l.holder = true
  receiver : ∀ {i l r}, s.leaseAt i = some l → l.phase.receiver = some r → s.isOpen r = true ∧ r ≠ l.holder
  closed : ∀ {c}, s.isOpen c = false →
    (s.session c).notices = 0 ∧ (s.session c).outcome = none ∧ (s.session c).mask = allNotices

theorem sessionLaw_iff_manned {s : State} : s.SessionLaw ↔ Manned s := by
  constructor
  · intro h
    have hopen : ∀ c i, s.heldBy c i = true ∨ s.giverTo c i ≠ none → s.isOpen c = true := by
      intro c i hi
      by_contra hc
      obtain ⟨-, -, -, hno⟩ := (h c).1 (by simpa using hc)
      simp [hno i] at hi
    refine ⟨fun hl => hopen _ _ (.inl (State.heldBy_iff.mpr ⟨_, hl, rfl⟩)), fun hl hr => ⟨?_, ?_⟩, fun hc => ?_⟩
    · exact hopen _ _ (.inr (by rw [State.giverTo_eq_some.mpr ⟨_, hl, hr, rfl⟩]; simp))
    · exact fun he => (h _).2 _ (State.giverTo_eq_some.mpr ⟨_, hl, hr, he.symm⟩)
    · exact ⟨((h _).1 hc).1, ((h _).1 hc).2.1, ((h _).1 hc).2.2.1⟩
  · intro h c
    refine ⟨fun hc => ⟨(h.closed hc).1, (h.closed hc).2.1, (h.closed hc).2.2, fun i => ⟨?_, ?_⟩⟩, fun i hg => ?_⟩
    · rw [Bool.eq_false_iff]
      intro hi
      obtain ⟨l, hl, rfl⟩ := State.heldBy_iff.mp hi
      simp [h.holder hl] at hc
    · rw [Option.eq_none_iff_forall_not_mem]
      intro g hg
      obtain ⟨l, hl, hr, -⟩ := State.giverTo_eq_some.mp hg
      simp [(h.receiver hl hr).1] at hc
    · obtain ⟨l, hl, hr, he⟩ := State.giverTo_eq_some.mp hg
      exact (h.receiver hl hr).2 he.symm

/-- An update after which no lease has another holder or receiver, no session has opened or closed, and no CLOSED session
has anything new. -/
theorem Manned.of_descends {s t : State} (hs : Manned s) (h : Descends s t) (ho : ∀ c, t.isOpen c = s.isOpen c)
    (hc : ∀ c, s.isOpen c = false → t.session c = s.session c) : Manned t := by
  refine ⟨fun {i m} hm => ?_, fun {i m r} hm hr => ?_, fun {c} hcl => ?_⟩
  · obtain ⟨l, hl, hh, -⟩ := h i m hm
    rw [ho, hh]
    exact hs.holder hl
  · obtain ⟨l, hl, hh, hrec⟩ := h i m hm
    rw [ho, hh]
    exact hs.receiver hl (by rcases hrec with hrec | hrec <;> simp_all)
  · rw [ho] at hcl
    rw [hc c hcl]
    exact hs.closed hcl

/-- A session record rewritten with the session as OPEN as it was, and nothing new where it is CLOSED. -/
theorem Manned.putSession {s : State} (hs : Manned s) {c : Client} {x : Session}
    (ho : x.opened.isSome = (s.session c).opened.isSome)
    (hc : s.isOpen c = false → x.notices = 0 ∧ x.outcome = none ∧ x.mask = allNotices) : Manned (s.putSession c x) := by
  have hopen : ∀ d, (s.putSession c x).isOpen d = s.isOpen d := fun d => by
    rw [State.isOpen, s.session_putSession, State.isOpen]
    split
    next h => rw [ho, h]
    next => rfl
  refine ⟨fun hl => by rw [hopen]; exact hs.holder hl, fun hl hr => by rw [hopen]; exact hs.receiver hl hr, fun {d} hd => ?_⟩
  rw [hopen] at hd
  rw [s.session_putSession]
  split
  next h => exact hc (h ▸ hd)
  next => exact hs.closed hd

/-- A lease of slot `i` rewritten with an OPEN holder and, where it is offered, an OPEN receiver that is not its holder. -/
theorem Manned.set {s t : State} {i : SlotId} {m : Lease} (hs : Manned s)
    (ht : ∀ j, t.leaseAt j = if i = j then some m else s.leaseAt j) (hses : t.sessions = s.sessions)
    (hh : s.isOpen m.holder = true) (hr : ∀ r, m.phase.receiver = some r → s.isOpen r = true ∧ r ≠ m.holder) :
    Manned t := by
  have hopen := State.isOpen_congr hses
  refine ⟨fun {j l} hl => ?_, fun {j l r} hl hrec => ?_, fun {c} hc => ?_⟩
  · rw [ht] at hl
    rw [hopen]
    split at hl
    · exact Option.some.inj hl ▸ hh
    · exact hs.holder hl
  · rw [ht] at hl
    rw [hopen]
    split at hl
    · obtain rfl := Option.some.inj hl; exact hr r hrec
    · exact hs.receiver hl hrec
  · rw [hopen] at hc
    rw [State.session_congr hses]
    exact hs.closed hc

theorem Manned.congr {s t : State} (hs : Manned s) (hslots : t.slots = s.slots) (hses : t.sessions = s.sessions) : Manned t :=
  hs.of_descends (.of_slots hslots) (State.isOpen_congr hses) fun c _ => State.session_congr hses c

theorem Manned.notify {s : State} (hs : Manned s) (c : Client) (k : Notice) : Manned (s.notify c k) := by
  refine hs.of_descends (.of_slots (notify_slots s c k)) (fun d => s.isOpen_notify c d k) fun d hd => ?_
  rw [s.session_notify, if_neg]
  rintro ⟨rfl, ho⟩
  simp [hd] at ho

theorem Manned.setOutcome {s : State} (hs : Manned s) {c : Client} (hc : s.isOpen c = true) (h : Handle) (o : Outcome) :
    Manned (s.setOutcome c h o) := hs.putSession rfl fun ho => by simp [hc] at ho

theorem Manned.tellEnd {t : State} (hs : Manned t) {l : Lease} (hl : t.isOpen l.holder = true) (h : Handle) :
    Manned (t.tellEnd l h) := by
  unfold State.tellEnd
  split
  · exact ((hs.setOutcome hl h .voided).notify _ _).notify _ _
  · exact hs.notify _ _

theorem Manned.endLease {s : State} (hs : Manned s) (i : SlotId) (why : EndReason) (d : Option FaultId) :
    Manned (s.endLease i why d) := by
  by_cases ha : ∃ l, s.leaseAt i = some l ∧ (l.phase.isWaiting = true ∨ l.phase.isLive = true)
  · obtain ⟨l, hl, ha⟩ := ha
    have hdesc := endLease_descends s i why d
    rw [endLease_eq hl ha] at hdesc ⊢
    refine Manned.tellEnd ?_ ?_ _
    · refine hs.of_descends (fun j m hm => hdesc j m ?_) (State.isOpen_congr (closeSlot_sessions ..))
        fun c _ => State.session_congr (closeSlot_sessions ..) c
      rw [State.leaseAt_congr (tellEnd_slots ..)]
      exact hm
    · rw [State.isOpen_congr (closeSlot_sessions ..)]
      exact hs.holder hl
  · rw [endLease_of_inactive fun l hl => by simpa using fun h => ha ⟨l, hl, h⟩]
    exact hs

theorem Manned.grantWaiting {s : State} (hs : Manned s) {i : SlotId} {l : Lease} (hl : s.leaseAt i = some l) :
    Manned (s.grantWaiting i l) := by
  rw [grantWaiting_eq]
  have hh : s.isOpen l.holder = true := hs.holder hl
  refine Manned.notify (hs.set (i := i) (m := l.granted s.clock) (fun j => ?_)
    (recomputeAll_sessions (s.grantedSlot i l) l.outputs) hh nofun) _ _
  exact State.leaseAt_of_set (x := ⟨(s.slot i).generation, some (l.granted s.clock)⟩)
    (recomputeAll_slots (s.grantedSlot i l) l.outputs) j

theorem Manned.openFresh {s : State} (hs : Manned s) (r : Received) : Manned (s.openFresh r) := by
  have hses : ∀ d, (s.openFresh r).isOpen d = true ↔ d = r.client ∨ s.isOpen d = true := by
    intro d
    have hopen : (s.openFresh r).isOpen d = (if r.client = d then true else s.isOpen d) :=
      (congrArg (fun x : Session => x.opened.isSome) (s.session_putSession r.client d (s.freshSession r))).trans
        (by split <;> rfl)
    rw [hopen]
    by_cases hd : r.client = d
    · simp [hd]
    · simp [hd, Ne.symm hd]
  refine ⟨fun hl => (hses _).mpr (.inr (hs.holder hl)), fun hl hr => ?_, fun {d} hd => ?_⟩
  · obtain ⟨ho, hne⟩ := hs.receiver hl hr
    exact ⟨(hses _).mpr (.inr ho), hne⟩
  · rw [Bool.eq_false_iff, ne_eq, hses, not_or] at hd
    have hsame : (s.openFresh r).session d = s.session d :=
      (s.session_putSession r.client d (s.freshSession r)).trans (if_neg (Ne.symm hd.1))
    rw [hsame]
    exact hs.closed (by simpa using hd.2)

theorem Manned.closeRecord {s : State} (hs : Manned s) {c : Client}
    (h : ∀ i, s.heldBy c i = false ∧ s.giverTo c i = none) : Manned (s.closeRecord c) := by
  have hses : ∀ d, (s.closeRecord c).session d =
      if c = d then { s.session c with opened := none, notices := 0, mask := allNotices, outcome := none } else s.session d :=
    fun d => s.session_putSession c d _
  have hopen : ∀ d, s.isOpen d = true → d ≠ c → (s.closeRecord c).isOpen d = true := fun d hd hne => by
    rw [State.isOpen, hses, if_neg (Ne.symm hne)]; exact hd
  refine ⟨fun {i l} hl => hopen _ (hs.holder hl) ?_, fun {i l r} hl hr => ⟨hopen _ (hs.receiver hl hr).1 ?_, (hs.receiver hl hr).2⟩,
    fun {d} hd => ?_⟩
  · rintro rfl
    have hheld : s.heldBy l.holder i = true := State.heldBy_iff.mpr ⟨l, hl, rfl⟩
    simp [(h i).1] at hheld
  · rintro rfl
    have hgiver : s.giverTo r i = some l.holder := State.giverTo_eq_some.mpr ⟨l, hl, hr, rfl⟩
    simp [(h i).2] at hgiver
  · rw [State.isOpen, hses] at hd
    rw [hses]
    split
    · exact ⟨rfl, rfl, rfl⟩
    next hne => exact hs.closed (by simpa [hne, State.isOpen] using hd)

/-- The operations against the law of the CLOSED sessions: a lease gets a new holder or receiver only among OPEN sessions. -/
theorem manned_untimed : Untimed Manned where
  outside _ _ _ _ _ _ _ hs := hs.congr rfl rfl
  writeSlot c x hs := hs.putSession rfl fun hc => hs.closed hc
  conclude {s} r a hs := by
    refine hs.putSession ?_ fun hc => hs.closed hc
    cases (s.session r.client).opened <;> rfl
  notify c k hs := hs.notify c k
  freeSlot {s} i hs := by
    have hses : (s.freeSlot i).sessions = s.sessions := by
      cases hl : s.leaseAt i with
      | none => rw [freeSlot_of_none hl]
      | some l => rw [freeSlot_eq hl, closeSlot_sessions]
    exact hs.of_descends (freeSlot_descends s i) (State.isOpen_congr hses) fun c _ => State.session_congr hses c
  endLease i why d hs := hs.endLease i why d
  grantWaiting hl _ _ hs := hs.grantWaiting hl
  relabel hl h hs := hs.of_descends (relabel_descends hl h) (fun _ => rfl) fun _ _ => rfl
  setOutcome h o hc hs := by
    refine hs.setOutcome (hc.elim id ?_) h o
    rintro ⟨i, hi⟩
    obtain ⟨l, hl, rfl⟩ := State.heldBy_iff.mp hi
    exact hs.holder hl
  ackEnd {s i _} _ _ _ hs :=
    hs.of_descends (.of_set (s.leaseAt_putLease i · none) (by simp)) (fun _ => rfl) fun _ _ => rfl
  grantNew {s c r k i} hc _ _ hs := hs.set (leaseAt_grantNew s c r k i) (grantNew_sessions s c r k i) hc nofun
  queueNew {s c r k i} hc _ _ hs := hs.set (leaseAt_queueNew s c r k i) rfl hc nofun
  offer {s i l ga d r od} hl _ ho hne hs := by
    have hh : s.isOpen l.holder = true := hs.holder hl
    refine hs.set (s.leaseAt_putLease i · _) rfl hh fun r' hr' => ?_
    obtain rfl : r = r' := by simpa [Phase.receiver] using hr'
    exact ⟨ho, hne⟩
  accept {s i l ga d c od h} hl _ ho _ hs :=
    Manned.setOutcome (hs.set (s.leaseAt_putLease i · (some { l with holder := c, phase := .live ga d })) rfl ho nofun)
      (hs.holder hl) _ _
  start _ hs := hs.congr rfl rfl
  halt _ _ hs := hs.congr rfl rfl
  setOutput _ _ _ _ hs := hs.congr rfl rfl
  setPair {s a b} p _ _ hs := hs.congr (setPair_slots s a b p) (setPair_sessions s a b p)
  setQuota _ hs := hs.putSession rfl fun hc => hs.closed hc
  setMask {s c} m hc hs :=
    Manned.congr (s := s.putSession c { s.session c with mask := m }) (hs.putSession rfl fun ho => by simp [hc] at ho) rfl rfl
  readNotices {s} c hs :=
    Manned.congr (s := s.putSession c { s.session c with notices := 0 }) (hs.putSession rfl fun hc => ⟨rfl, (hs.closed hc).2⟩)
      rfl rfl
  openFresh r _ hs := hs.openFresh r
  closeRecord h hs := hs.closeRecord h
  settleOff _ hs := hs.congr rfl rfl
  uncutOutput _ _ hs := hs.congr rfl rfl
  cutOutput {s o} ch _ hs := hs.congr (cutOutput_slots ch s o) (cutOutput_sessions ch s o)

theorem manned_of_reset {t : State} (hslots : t.slots = State.reset.slots) (hses : t.sessions = State.reset.sessions) :
    Manned t := by
  refine ⟨fun hl => ?_, fun hl => ?_, fun _ => ?_⟩
  · simp [State.leaseAt_of_reset hslots] at hl
  · simp [State.leaseAt_of_reset hslots] at hl
  · rw [State.session_of_reset hses]
    exact ⟨rfl, rfl, rfl⟩

/-- Settles O58, by the law from the leases' side. -/
theorem stepKeepsClosedSessionsEmpty : Obligations.StepKeepsClosedSessionsEmpty := by
  unfold Obligations.StepKeepsClosedSessionsEmpty
  intro s t hs ht
  rw [sessionLaw_iff_manned] at hs ⊢
  exact manned_untimed.kept.step (fun _ _ _ _ => manned_of_reset rfl rfl) hs ht

end Sys2Proof.Machine
end

section
/-! SUPPORT. The pins of a running part: the G lines follow the outputs in every write of an output record, and ATN is brought
up to date by whatever changes a session's pending set, mask or opening (R38, R152). -/

namespace Sys2Proof.Machine

/-- The pins of a running part stand at the levels the state calls for (R38, R152). -/
structure Driven (s : State) : Prop where
  power : s.power = .running
  lines : ∀ o : OutputId, s.gLines[o] = (s.output o).line
  atn : s.atnLow = s.attention

theorem pinLaw_of_driven {s : State} (h : Driven s) : s.PinLaw := ⟨fun o => by simp [h.power, h.lines o], h.atn⟩

theorem driven_of_pinLaw {s : State} (hrun : s.power = .running) (h : s.PinLaw) : Driven s :=
  ⟨hrun, fun o => by rw [h.1 o, hrun]; rfl, h.2⟩

theorem State.attention_of_calls {s t : State} (h : ∀ c, (t.session c).calls = (s.session c).calls) :
    t.attention = s.attention := by
  rw [State.attention, State.attention, funext h]

namespace Driven

variable {s t : State}

/-- An update of other blocks. -/
theorem congr (hs : Driven s) (hp : t.power = s.power) (ho : t.outputs = s.outputs) (hg : t.gLines = s.gLines)
    (hses : t.sessions = s.sessions) (ha : t.atnLow = s.atnLow) : Driven t where
  power := hp.trans hs.power
  lines o := by rw [hg, hs.lines, State.output, State.output, ho]
  atn := by rw [ha, hs.atn, State.attention_congr hses]

theorem putSession (hs : Driven s) (c : Client) (x : Session) (h : x.calls = (s.session c).calls) :
    Driven (s.putSession c x) where
  power := hs.power
  lines := hs.lines
  atn := by
    refine hs.atn.trans (State.attention_of_calls fun d => ?_).symm
    rw [s.session_putSession]
    split
    next hcd => rw [h, hcd]
    next => rfl

/-- Bringing ATN up to date after any change of a session. -/
theorem putSession_updateAtn (hs : Driven s) (c : Client) (x : Session) : Driven (s.putSession c x).updateAtn where
  power := hs.power
  lines := hs.lines
  atn := State.attention_congr rfl

theorem notify (hs : Driven s) (c : Client) (k : Notice) : Driven (s.notify c k) := by
  unfold State.notify
  split
  · exact hs.putSession_updateAtn c _
  · exact hs

theorem setOutcome (hs : Driven s) (c : Client) (h : Handle) (o : Outcome) : Driven (s.setOutcome c h o) :=
  hs.putSession c _ rfl

theorem putOutput (hs : Driven s) (o : OutputId) (x : Output) : Driven (s.putOutput o x) where
  power := hs.power
  lines p := by
    rw [s.gLine_putOutput, s.output_putOutput]
    split
    · rfl
    · exact hs.lines p
  atn := hs.atn

/-- Outputs that have followed their holders have taken their lines along. -/
theorem follow (hs : Driven s) {S : OutputSet} (h : OutputsFollow s t S) (hp : t.power = s.power)
    (hses : t.sessions = s.sessions) (ha : t.atnLow = s.atnLow) : Driven t where
  power := hp.trans hs.power
  lines o := by
    rw [h.lines]
    split
    next hst =>
      have hout : t.output o = s.output o := by rw [h.outputs] at hst ⊢; simp only at hst; rw [hst]
      rw [hs.lines, hout]
    next => rfl
  atn := by rw [ha, hs.atn, State.attention_congr hses]

theorem recomputeAll (hs : Driven s) (S : OutputSet) : Driven (s.recomputeAll S) :=
  hs.follow (outputsFollow_recomputeAll s S) (recomputeAll_spares s S).power (recomputeAll_sessions s S)
    (recomputeAll_atnLow s S)

theorem closeSlot (hs : Driven s) (i : SlotId) (x : Option Lease) (S : OutputSet) (w : List SlotId) :
    Driven (s.closeSlot i x S w) :=
  hs.follow (closeSlot_follow s i x S w) (closeSlot_spares s i x S w).power (closeSlot_sessions s i x S w)
    (closeSlot_atnLow s i x S w)

theorem tellEnd (ht : Driven t) (l : Lease) (h : Handle) : Driven (t.tellEnd l h) := by
  unfold State.tellEnd
  split
  · exact ((ht.setOutcome _ _ _).notify _ _).notify _ _
  · exact ht.notify _ _

theorem endLease (hs : Driven s) (i : SlotId) (why : EndReason) (d : Option FaultId) : Driven (s.endLease i why d) := by
  by_cases ha : ∃ l, s.leaseAt i = some l ∧ (l.phase.isWaiting = true ∨ l.phase.isLive = true)
  · obtain ⟨l, hl, ha⟩ := ha
    rw [endLease_eq hl ha]
    exact (hs.closeSlot ..).tellEnd _ _
  · rw [endLease_of_inactive fun l hl => by simpa using fun h => ha ⟨l, hl, h⟩]
    exact hs

theorem freeSlot (hs : Driven s) (i : SlotId) : Driven (s.freeSlot i) := by
  cases hl : s.leaseAt i with
  | none => rw [freeSlot_of_none hl]; exact hs
  | some l => rw [freeSlot_eq hl]; exact hs.closeSlot ..

/-- A partner set does not touch a line (R46). -/
theorem putPartners (hs : Driven s) (o : OutputId) (Q : OutputSet) : Driven (s.putPartners o Q) where
  power := hs.power
  lines p := by
    rw [s.output_putPartners]
    split
    next h => subst h; exact hs.lines o
    next => exact hs.lines p
  atn := hs.atn

theorem setPair (hs : Driven s) (a b : OutputId) (p : Bool) : Driven (s.setPair a b p) := by
  unfold State.setPair
  split
  · exact (hs.putPartners _ _).putPartners _ _
  · exact (hs.putPartners _ _).putPartners _ _

end Driven

/-- The operations against the pins. -/
theorem driven_untimed : Untimed Driven where
  outside _ _ _ _ _ _ _ hs := hs.congr rfl rfl rfl rfl rfl
  writeSlot c _ hs := hs.putSession c _ rfl
  conclude {s} r _ hs := hs.putSession r.client _ (by unfold Session.calls; cases (s.session r.client).opened <;> rfl)
  notify c k hs := hs.notify c k
  freeSlot i hs := hs.freeSlot i
  endLease i why d hs := hs.endLease i why d
  grantWaiting {s i l _} _ _ _ hs := by
    rw [grantWaiting_eq]
    exact (Driven.recomputeAll (s := s.grantedSlot i l) (hs.congr rfl rfl rfl rfl rfl) l.outputs).notify _ _
  relabel _ _ hs := hs.congr rfl rfl rfl rfl rfl
  setOutcome h o _ hs := hs.setOutcome _ h o
  ackEnd _ _ _ hs := hs.congr rfl rfl rfl rfl rfl
  grantNew {s c r k i} _ _ _ hs := by
    rw [grantNew_fst]
    exact Driven.recomputeAll (s := s.takenLive c r k i) (hs.congr rfl rfl rfl rfl rfl) _
  queueNew _ _ _ hs := hs.congr rfl rfl rfl rfl rfl
  offer _ _ _ _ hs := hs.congr rfl rfl rfl rfl rfl
  accept {s i l ga d c _ _} _ _ _ _ hs :=
    Driven.setOutcome (s := s.putLease i (some { l with holder := c, phase := .live ga d })) (hs.congr rfl rfl rfl rfl rfl) _ _ _
  start _ hs := hs.congr rfl rfl rfl rfl rfl
  halt _ _ hs := hs.congr rfl rfl rfl rfl rfl
  setOutput o _ _ _ hs := hs.putOutput o _
  setPair p _ _ hs := hs.setPair _ _ p
  setQuota {_ c _} _ hs := hs.putSession c _ rfl
  setMask {_ c} _ _ hs := hs.putSession_updateAtn c _
  readNotices c hs := hs.putSession_updateAtn c _
  openFresh {s} r _ hs := hs.putSession_updateAtn r.client (s.freshSession r)
  closeRecord {_ c} _ hs := hs.putSession_updateAtn c _
  settleOff _ hs := hs.putOutput _ _
  uncutOutput _ o hs := hs.putOutput o _
  cutOutput _ _ hs := by
    unfold cutOutput
    dsimp only
    split
    · exact (hs.putOutput _ _).congr rfl rfl rfl rfl rfl
    · exact hs.putOutput _ _

/-- At the reset values every line is low and ATN is released (R163). -/
theorem pinLaw_of_reset {t : State} (ho : t.outputs = State.reset.outputs) (hg : t.gLines = State.reset.gLines)
    (hses : t.sessions = State.reset.sessions) (ha : t.atnLow = false) : t.PinLaw := by
  constructor
  · intro o
    have hline : (t.output o).line = false := by simp [State.output, ho, State.reset, Output.reset, Output.line]
    simp [hg, State.reset, hline]
  · simp [ha, State.attention, State.session_of_reset hses, Session.calls, Session.reset]

/-- Settles O60: a running part keeps its pins driven, and the others stand at their reset values. -/
theorem stepKeepsThePins : Obligations.StepKeepsThePins := by
  unfold Obligations.StepKeepsThePins
  exact fun s t hs ht => driven_untimed.kept.step_of driven_of_pinLaw pinLaw_of_driven (fun _ h => h)
    (fun _ _ _ _ => pinLaw_of_reset rfl rfl rfl rfl) hs ht

end Sys2Proof.Machine
end

section
/-! SUPPORT. Keeping partners apart (R30, R39, R51): the safety laws read of each slot only its claim, which is what its request
or lease asks for and whether it still waits. The laws are restated over claims, and each operation is a claim dropped, a
claim that goes live, a claim that queues, or a change of the outputs under the same claims. -/

namespace Sys2Proof.Machine

/-! ### Claims -/

/-- What a waiting request or a live lease has to do with the outputs. -/
structure Claim where
  waiting : Bool
  outputs : OutputSet
  kind    : Kind

/-- The claim of a lease: none once it is ENDED. -/
def Lease.claim (l : Lease) : Option Claim :=
  if l.phase.isWaiting then some ⟨true, l.outputs, l.kind⟩
  else if l.phase.isLive then some ⟨false, l.outputs, l.kind⟩
  else none

/-- The claim of slot `i`. -/
def State.claim (s : State) (i : SlotId) : Option Claim := (s.leaseAt i).bind Lease.claim

theorem Phase.not_live_of_waiting {p : Phase} (h : p.isWaiting = true) : p.isLive = false := by
  cases p <;> simp_all [Phase.isWaiting, Phase.isLive]

theorem Lease.claim_of_waiting {l : Lease} (h : l.phase.isWaiting = true) : l.claim = some ⟨true, l.outputs, l.kind⟩ := by
  rw [Lease.claim, if_pos h]

theorem Lease.claim_of_live {l : Lease} (h : l.phase.isLive = true) : l.claim = some ⟨false, l.outputs, l.kind⟩ := by
  have hw : l.phase.isWaiting = false := by
    by_contra hw
    simp [Phase.not_live_of_waiting (by simpa using hw)] at h
  rw [Lease.claim, if_neg (by simp [hw]), if_pos h]

theorem Lease.claim_of_inactive {l : Lease} (hw : l.phase.isWaiting = false) (hl : l.phase.isLive = false) :
    l.claim = none := by
  rw [Lease.claim, if_neg (by simp [hw]), if_neg (by simp [hl])]

theorem Lease.SameClaim.claim_eq {l m : Lease} (h : l.SameClaim m) : m.claim = l.claim := by
  rw [Lease.claim, Lease.claim, h.outputs, h.kind, h.live, h.waiting]

theorem Lease.claim_eq_some {l : Lease} {c : Claim} :
    l.claim = some c ↔ l.outputs = c.outputs ∧ l.kind = c.kind ∧
      ((l.phase.isWaiting = true ∧ c.waiting = true) ∨ (l.phase.isLive = true ∧ c.waiting = false)) := by
  obtain ⟨w, S, k⟩ := c
  unfold Lease.claim
  have := @Phase.not_live_of_waiting l.phase
  cases hw : l.phase.isWaiting <;> cases hl : l.phase.isLive <;> cases w <;> simp_all

theorem State.waitingAt_iff_claim {s : State} {i : SlotId} :
    s.waitingAt i = true ↔ ∃ c, s.claim i = some c ∧ c.waiting = true := by
  rw [State.waitingAt_eq, State.claim]
  cases s.leaseAt i with
  | none => simp
  | some l =>
    simp only [Option.any_some, Option.bind_some, Lease.claim_eq_some]
    constructor
    · exact fun h => ⟨⟨true, l.outputs, l.kind⟩, ⟨rfl, rfl, .inl ⟨h, rfl⟩⟩, rfl⟩
    · rintro ⟨c, ⟨-, -, h | h⟩, hc⟩
      · exact h.1
      · simp [h.2] at hc

theorem State.liveAt_iff_claim {s : State} {i : SlotId} :
    s.liveAt i = true ↔ ∃ c, s.claim i = some c ∧ c.waiting = false := by
  rw [State.liveAt_eq, State.claim]
  cases s.leaseAt i with
  | none => simp
  | some l =>
    simp only [Option.any_some, Option.bind_some, Lease.claim_eq_some]
    constructor
    · exact fun h => ⟨⟨false, l.outputs, l.kind⟩, ⟨rfl, rfl, .inr ⟨h, rfl⟩⟩, rfl⟩
    · rintro ⟨c, ⟨-, -, h | h⟩, hc⟩
      · simp [h.2] at hc
      · exact h.1

/-- Slot `i` holds output `o` when its claim is live and names it (R29). -/
def Claim.Holds (c : Claim) (o : OutputId) : Prop := c.waiting = false ∧ c.outputs.getLsbD o = true

/-- An output has a holder. -/
def Held (claim : SlotId → Option Claim) (o : OutputId) : Prop := ∃ i c, claim i = some c ∧ c.Holds o

theorem State.slotHolds_iff_claim {s : State} {o : OutputId} {i : SlotId} :
    s.slotHolds o i = true ↔ ∃ c, s.claim i = some c ∧ c.Holds o := by
  rw [State.slotHolds_iff, State.claim]
  constructor
  · rintro ⟨l, hl, hlive, ho⟩
    exact ⟨_, by rw [hl, Option.bind_some, Lease.claim_of_live hlive], rfl, ho⟩
  · rintro ⟨c, hc, hw, ho⟩
    obtain ⟨l, hl, hlc⟩ := Option.bind_eq_some_iff.mp hc
    obtain ⟨hS, -, h | h⟩ := Lease.claim_eq_some.mp hlc
    · simp [h.2] at hw
    · exact ⟨l, hl, h.1, hS ▸ ho⟩

theorem State.held_iff_claim {s : State} {o : OutputId} : s.held o = true ↔ Held s.claim o := by
  simp only [State.held_iff, State.slotHolds_iff_claim, Held]

/-- The claims after one slot was rewritten. -/
theorem State.claim_of_set {s t : State} {i : SlotId} {x : Option Lease}
    (h : ∀ j, t.leaseAt j = if i = j then x else s.leaseAt j) (j : SlotId) :
    t.claim j = if i = j then x.bind Lease.claim else s.claim j := by
  rw [State.claim, h, State.claim]; split <;> rfl

theorem State.claim_congr {s t : State} (h : t.slots = s.slots) : t.claim = s.claim :=
  funext fun i => by rw [State.claim, State.leaseAt_congr h, State.claim]

/-! ### Partners -/

theorem mem_partnersOf {s : State} {S : OutputSet} {p : OutputId} :
    (s.partnersOf S).getLsbD p = true ↔ ∃ o : OutputId, S.getLsbD o = true ∧ (s.output o).partners.getLsbD p = true := by
  have hfold : ∀ (L : List OutputId) (acc : OutputSet),
      (L.foldl (fun acc o => acc ||| (s.output o).partners) acc).getLsbD p = true ↔
        acc.getLsbD p = true ∨ ∃ o ∈ L, (s.output o).partners.getLsbD p = true := by
    intro L
    induction L with
    | nil => simp
    | cons o L ih =>
      intro acc
      rw [List.foldl_cons, ih, BitVec.getLsbD_or, Bool.or_eq_true]
      simp only [List.mem_cons, exists_eq_or_imp, or_assoc]
  rw [State.partnersOf, hfold]
  simp only [mem_members]
  simp

/-- A set holds no two partners (R49, step 3). -/
theorem State.pairFree_iff {s : State} {S : OutputSet} :
    s.partnersOf S &&& S = 0 ↔
      ∀ a b : OutputId, S.getLsbD a = true → S.getLsbD b = true → (s.output a).partners.getLsbD b = false := by
  rw [← not_iff_not, ← ne_eq, outputSet_and_ne_zero]
  simp only [mem_partnersOf, not_forall, Bool.not_eq_false]
  constructor
  · rintro ⟨b, ⟨a, ha, hab⟩, hb⟩; exact ⟨a, b, ha, hb, hab⟩
  · rintro ⟨a, b, ha, hb, hab⟩; exact ⟨b, ⟨a, ha, hab⟩, hb⟩

/-! ### The laws over claims -/

/-- The safety laws over the claims, the outputs, the wait queue and the mode. -/
structure Apart (claim : SlotId → Option Claim) (out : OutputId → Output) (queue : List SlotId) (mode : Mode) : Prop where
  symm : ∀ a b : OutputId, (out a).partners.getLsbD b = (out b).partners.getLsbD a
  irrefl : ∀ a : OutputId, (out a).partners.getLsbD a = false
  on : ∀ o, (out o).state = .on ↔ Held claim o
  cut : ∀ o, (out o).state = .cut ↔ (out o).cutBy ≠ 0
  queued : ∀ i, i ∈ queue ↔ ∃ c, claim i = some c ∧ c.waiting = true
  nodup : queue.Nodup
  length : queue.length ≤ Config.queueCapacity
  setup : mode = .setup → ∀ i, claim i = none
  pair : ∀ {i c}, claim i = some c → ∀ a b : OutputId, c.outputs.getLsbD a = true → c.outputs.getLsbD b = true →
    (out a).partners.getLsbD b = false
  sole : ∀ {o i j c d}, claim i = some c → claim j = some d → c.Holds o → d.Holds o → c.kind = .sole → i = j
  interlock : ∀ a b : OutputId, (out a).partners.getLsbD b = true → (out a).state = .on →
    (out b).state ≠ .on ∧ (out b).state ≠ .settle

/-- The safety laws of the part, over its claims. -/
def Safe (s : State) : Prop := Apart s.claim s.output s.waitQueue s.mode

theorem Lease.slotSole_iff {s : State} {i : SlotId} {c : Claim} (hc : s.claim i = some c) :
    s.slotSole i = true ↔ c.kind = .sole := by
  obtain ⟨l, hl, hlc⟩ := Option.bind_eq_some_iff.mp hc
  obtain ⟨-, hk, -⟩ := Lease.claim_eq_some.mp hlc
  simp [State.slotSole, hl, hk]

theorem State.claim_eq_none_iff {s : State} {i : SlotId} :
    s.claim i = none ↔ s.waitingAt i = false ∧ s.liveAt i = false := by
  rw [Bool.eq_false_iff, Bool.eq_false_iff, ne_eq, ne_eq, State.waitingAt_iff_claim, State.liveAt_iff_claim]
  cases h : s.claim i with
  | none => simp
  | some c => cases hw : c.waiting <;> simp [hw]

theorem State.outputsOf_of_claim {s : State} {i : SlotId} {c : Claim} (hc : s.claim i = some c) :
    s.outputsOf i = c.outputs := by
  obtain ⟨l, hl, hlc⟩ := Option.bind_eq_some_iff.mp hc
  obtain ⟨hS, -⟩ := Lease.claim_eq_some.mp hlc
  simp [State.outputsOf, hl, hS]

theorem safetyLaw_iff_safe {s : State} : s.SafetyLaw ↔ Safe s := by
  have hactive : ∀ i, (s.waitingAt i = true ∨ s.liveAt i = true) ↔ ∃ c, s.claim i = some c := by
    intro i
    rw [State.waitingAt_iff_claim, State.liveAt_iff_claim]
    constructor
    · rintro (⟨c, hc, -⟩ | ⟨c, hc, -⟩) <;> exact ⟨c, hc⟩
    · rintro ⟨c, hc⟩
      cases hw : c.waiting
      · exact .inr ⟨c, hc, hw⟩
      · exact .inl ⟨c, hc, hw⟩
  constructor
  · rintro ⟨hex, hout, ⟨hq, hnd, hlen, hset⟩, hpair, hsole, hint⟩
    exact
      { symm := fun a b => (hex a b).1
        irrefl := fun a => (hex a a).2
        on := fun o => (hout o).1.trans State.held_iff_claim
        cut := fun o => (hout o).2
        queued := fun i => (hq i).trans State.waitingAt_iff_claim
        nodup := hnd
        length := hlen
        setup := fun hm i => State.claim_eq_none_iff.mpr (hset hm i)
        pair := fun {i c} hc a b ha hb => by
          have := State.pairFree_iff.mp (hpair i ((hactive i).mpr ⟨c, hc⟩))
          rw [State.outputsOf_of_claim hc] at this
          exact this a b ha hb
        sole := fun {o i j c d} hc hd hco hdo hk =>
          hsole o i j (State.slotHolds_iff_claim.mpr ⟨c, hc, hco⟩) (State.slotHolds_iff_claim.mpr ⟨d, hd, hdo⟩)
            ((Lease.slotSole_iff hc).mpr hk)
        interlock := hint }
  · intro h
    refine ⟨fun a b => ⟨h.symm a b, h.irrefl a⟩, fun o => ⟨(h.on o).trans State.held_iff_claim.symm, h.cut o⟩,
      ⟨fun i => (h.queued i).trans State.waitingAt_iff_claim.symm, h.nodup, h.length,
        fun hm i => State.claim_eq_none_iff.mp (h.setup hm i)⟩, fun i hi => ?_, fun o i j hi hj hk => ?_, h.interlock⟩
    · obtain ⟨c, hc⟩ := (hactive i).mp hi
      rw [State.pairFree_iff, State.outputsOf_of_claim hc]
      exact h.pair hc
    · obtain ⟨c, hc, hco⟩ := State.slotHolds_iff_claim.mp hi
      obtain ⟨d, hd, hdo⟩ := State.slotHolds_iff_claim.mp hj
      exact h.sole hc hd hco hdo ((Lease.slotSole_iff hc).mp hk)

namespace Apart

variable {claim claim' : SlotId → Option Claim} {out out' : OutputId → Output} {queue queue' : List SlotId} {mode : Mode}

/-- Claims go or stay, and no output becomes ON, or comes to restrain its partners, that did not before. -/
theorem fall (h : Apart claim out queue mode) (hclaim : ∀ i c, claim' i = some c → claim i = some c)
    (hpartners : ∀ o, (out' o).partners = (out o).partners) (hon : ∀ o, (out' o).state = .on ↔ Held claim' o)
    (hcut : ∀ o, (out' o).state = .cut ↔ (out' o).cutBy ≠ 0)
    (hsettle : ∀ o, (out' o).state = .settle → (out o).state = .settle ∨ (out o).state = .on)
    (hqueue : ∀ i, i ∈ queue' ↔ i ∈ queue ∧ claim' i = claim i) (hnodup : queue'.Nodup)
    (hlength : queue'.length ≤ queue.length) : Apart claim' out' queue' mode := by
  have hstill : ∀ o, (out' o).state = .on → (out o).state = .on := fun o ho => by
    obtain ⟨i, c, hc, hco⟩ := (hon o).mp ho
    exact (h.on o).mpr ⟨i, c, hclaim i c hc, hco⟩
  exact
    { symm := fun a b => by rw [hpartners, hpartners]; exact h.symm a b
      irrefl := fun a => by rw [hpartners]; exact h.irrefl a
      on := hon
      cut := hcut
      queued := fun i => by
        rw [hqueue, h.queued]
        constructor
        · rintro ⟨⟨c, hc, hw⟩, hsame⟩; exact ⟨c, hsame.trans hc, hw⟩
        · rintro ⟨c, hc, hw⟩; exact ⟨⟨c, hclaim i c hc, hw⟩, hc.trans (hclaim i c hc).symm⟩
      nodup := hnodup
      length := hlength.trans h.length
      setup := fun hm i => by
        refine Option.eq_none_iff_forall_not_mem.mpr fun c hc => ?_
        have := hclaim i c hc
        simp [h.setup hm i] at this
      pair := fun {i c} hc a b ha hb => by rw [hpartners]; exact h.pair (hclaim i c hc) a b ha hb
      sole := fun hc hd hco hdo hk => h.sole (hclaim _ _ hc) (hclaim _ _ hd) hco hdo hk
      interlock := fun a b hab ha => by
        rw [hpartners] at hab
        obtain ⟨hbon, hbsettle⟩ := h.interlock a b hab (hstill a ha)
        refine ⟨fun hb => hbon (hstill b hb), fun hb => ?_⟩
        rcases hsettle b hb with hb | hb
        · exact hbsettle hb
        · exact hbon hb }

/-- The same claims and queue under outputs of the same states, cuts and partners. -/
theorem congr {mode' : Mode} (h : Apart claim out queue mode) (hclaim : claim' = claim) (hqueue : queue' = queue)
    (hout : ∀ o, (out' o).state = (out o).state ∧ (out' o).cutBy = (out o).cutBy ∧ (out' o).partners = (out o).partners)
    (hmode : mode' = .setup → mode = .setup ∨ ∀ i, claim i = none) : Apart claim' out' queue' mode' := by
  subst hclaim hqueue
  exact
    { symm := fun a b => by rw [(hout a).2.2, (hout b).2.2]; exact h.symm a b
      irrefl := fun a => by rw [(hout a).2.2]; exact h.irrefl a
      on := fun o => by rw [(hout o).1]; exact h.on o
      cut := fun o => by rw [(hout o).1, (hout o).2.1]; exact h.cut o
      queued := h.queued
      nodup := h.nodup
      length := h.length
      setup := fun hm => (hmode hm).elim h.setup id
      pair := fun hc a b => by rw [(hout a).2.2]; exact h.pair hc a b
      sole := h.sole
      interlock := fun a b => by rw [(hout a).1, (hout a).2.2, (hout b).1]; exact h.interlock a b }

/-- The claim `⟨false, S, k⟩` goes live in slot `i`, which was free or waiting, having passed the admission test: its outputs
are ON then, and no partner of theirs restrains them (R51). -/
theorem rise (h : Apart claim out queue mode) {i : SlotId} {S : OutputSet} {k : Kind} (hmode : mode ≠ .setup)
    (hnew : ∀ c, claim i = some c → c.waiting = true)
    (hclaim : ∀ j, claim' j = if i = j then some ⟨false, S, k⟩ else claim j)
    (hout : ∀ o, out' o = if S.getLsbD o then { out o with state := .on } else out o)
    (hqueue : queue' = queue.erase i)
    (hpair : ∀ a b : OutputId, S.getLsbD a = true → S.getLsbD b = true → (out a).partners.getLsbD b = false)
    (hcut : ∀ o : OutputId, S.getLsbD o = true → (out o).state ≠ .cut)
    (hsole : ∀ o : OutputId, S.getLsbD o = true → ∀ j c, claim j = some c → c.Holds o → k ≠ .sole ∧ c.kind ≠ .sole)
    (hbusy : ∀ o p : OutputId, S.getLsbD o = true → (out o).partners.getLsbD p = true →
      (out p).state ≠ .on ∧ (out p).state ≠ .settle) : Apart claim' out' queue' mode := by
  have hpartners : ∀ o, (out' o).partners = (out o).partners := fun o => by rw [hout]; split <;> rfl
  have hcutBy : ∀ o, (out' o).cutBy = (out o).cutBy := fun o => by rw [hout]; split <;> rfl
  have hstate : ∀ o : OutputId, (out' o).state = if S.getLsbD o then .on else (out o).state := fun o => by
    rw [hout]; split <;> rfl
  have hold : ∀ j c o, claim j = some c → c.Holds o → i ≠ j := by
    rintro j c o hc ⟨hw, -⟩ rfl
    simp [hnew c hc] at hw
  have hheld : ∀ o, Held claim' o ↔ S.getLsbD o = true ∨ Held claim o := by
    intro o
    constructor
    · rintro ⟨j, c, hc, hco⟩
      rw [hclaim] at hc
      split at hc
      · obtain rfl := Option.some.inj hc; exact .inl hco.2
      · exact .inr ⟨j, c, hc, hco⟩
    · rintro (ho | ⟨j, c, hc, hco⟩)
      · exact ⟨i, _, by rw [hclaim, if_pos rfl], rfl, ho⟩
      · exact ⟨j, c, by rw [hclaim, if_neg (hold j c o hc hco)]; exact hc, hco⟩
  exact
    { symm := fun a b => by rw [hpartners, hpartners]; exact h.symm a b
      irrefl := fun a => by rw [hpartners]; exact h.irrefl a
      on := fun o => by
        rw [hstate, hheld, ← h.on]
        cases ho : S.getLsbD o <;> simp
      cut := fun o => by
        rw [hstate, hcutBy, ← h.cut]
        cases ho : S.getLsbD o
        · simp
        · simp [hcut o ho]
      queued := fun j => by
        rw [hqueue, h.nodup.mem_erase_iff, h.queued, hclaim]
        by_cases hij : i = j
        · simp [hij]
        · simp [hij, Ne.symm hij]
      nodup := hqueue ▸ h.nodup.erase i
      length := by rw [hqueue]; exact (List.length_erase_le).trans h.length
      setup := fun hm => absurd hm hmode
      pair := fun {j c} hc a b ha hb => by
        rw [hpartners]
        rw [hclaim] at hc
        split at hc
        · obtain rfl := Option.some.inj hc; exact hpair a b ha hb
        · exact h.pair hc a b ha hb
      sole := fun {o j j' c d} hc hd hco hdo hk => by
        rw [hclaim] at hc hd
        split at hc <;> split at hd
        next hj hj' => exact hj.symm.trans hj'
        next hj hj' =>
          obtain rfl := Option.some.inj hc
          exact absurd hk (hsole o hco.2 j' d hd hdo).1
        next hj hj' =>
          obtain rfl := Option.some.inj hd
          exact absurd hk (hsole o hdo.2 j c hc hco).2
        next hj hj' => exact h.sole hc hd hco hdo hk
      interlock := fun a b hab ha => by
        rw [hpartners] at hab
        have hba : (out b).partners.getLsbD a = true := by rw [← h.symm a b]; exact hab
        rw [hstate] at ha
        rw [hstate]
        by_cases haS : S.getLsbD a = true
        · by_cases hbS : S.getLsbD b = true
          · exact absurd (hab.symm.trans (hpair a b haS hbS)) (by decide)
          · rw [if_neg hbS]; exact hbusy a b haS hab
        · rw [if_neg haS] at ha
          by_cases hbS : S.getLsbD b = true
          · exact absurd ha (hbusy b a hbS hba).1
          · rw [if_neg hbS]; exact h.interlock a b hab ha }

/-- A new claim waits at the tail of a queue that is not full (R53). -/
theorem enqueue (h : Apart claim out queue mode) {i : SlotId} {S : OutputSet} {k : Kind} (hmode : mode ≠ .setup)
    (hnew : claim i = none) (hclaim : ∀ j, claim' j = if i = j then some ⟨true, S, k⟩ else claim j)
    (hpair : ∀ a b : OutputId, S.getLsbD a = true → S.getLsbD b = true → (out a).partners.getLsbD b = false)
    (hlength : queue.length < Config.queueCapacity) : Apart claim' out (queue ++ [i]) mode := by
  have hlive : ∀ j c o, c.Holds o → (claim' j = some c ↔ claim j = some c) := by
    intro j c o hco
    rw [hclaim]
    split
    next hij =>
      subst hij
      rw [hnew]
      constructor
      · intro hc
        obtain rfl := Option.some.inj hc
        simp [Claim.Holds] at hco
      · simp
    next => rfl
  have hi : i ∉ queue := fun hi => by
    obtain ⟨c, hc, -⟩ := (h.queued i).mp hi
    simp [hnew] at hc
  exact
    { symm := h.symm
      irrefl := h.irrefl
      on := fun o => (h.on o).trans ⟨fun ⟨j, c, hc, hco⟩ => ⟨j, c, (hlive j c o hco).mpr hc, hco⟩,
        fun ⟨j, c, hc, hco⟩ => ⟨j, c, (hlive j c o hco).mp hc, hco⟩⟩
      cut := h.cut
      queued := fun j => by
        rw [List.mem_append, List.mem_singleton, h.queued, hclaim]
        by_cases hij : i = j
        · simp [hij]
        · simp [hij, Ne.symm hij]
      nodup := List.nodup_append.mpr ⟨h.nodup, List.nodup_singleton i, fun a ha b hb => by
        rintro rfl
        exact hi (List.mem_singleton.mp hb ▸ ha)⟩
      length := by simp only [List.length_append, List.length_singleton]; omega
      setup := fun hm => absurd hm hmode
      pair := fun {j c} hc a b ha hb => by
        rw [hclaim] at hc
        split at hc
        · obtain rfl := Option.some.inj hc; exact hpair a b ha hb
        · exact h.pair hc a b ha hb
      sole := fun {o _ _ c d} hc hd hco hdo hk => h.sole ((hlive _ c o hco).mp hc) ((hlive _ d o hdo).mp hd) hco hdo hk
      interlock := h.interlock }

/-- Under no claim at all no output is ON, so the relation may be rewritten, as long as it stays symmetric and
irreflexive (R46). -/
theorem repartner (h : Apart claim out queue mode) (hnone : ∀ i, claim i = none)
    (hout : ∀ o, (out' o).state = (out o).state ∧ (out' o).cutBy = (out o).cutBy)
    (hsymm : ∀ a b : OutputId, (out' a).partners.getLsbD b = (out' b).partners.getLsbD a)
    (hirrefl : ∀ a : OutputId, (out' a).partners.getLsbD a = false) : Apart claim out' queue mode where
  symm := hsymm
  irrefl := hirrefl
  on o := by rw [(hout o).1]; exact h.on o
  cut o := by rw [(hout o).1, (hout o).2]; exact h.cut o
  queued := h.queued
  nodup := h.nodup
  length := h.length
  setup := h.setup
  pair {i c} hc := by simp [hnone i] at hc
  sole {_ i _ _ _} hc := by simp [hnone i] at hc
  interlock a b _ ha := by
    rw [(hout a).1, h.on] at ha
    obtain ⟨i, c, hc, -⟩ := ha
    simp [hnone i] at hc

end Apart

/-! ### The operations -/

theorem Safe.congr {s t : State} (hs : Safe s) (hslots : t.slots = s.slots) (hq : t.waitQueue = s.waitQueue)
    (ho : ∀ o, (t.output o).state = (s.output o).state ∧ (t.output o).cutBy = (s.output o).cutBy ∧
      (t.output o).partners = (s.output o).partners) (hm : t.mode = s.mode) : Safe t :=
  Apart.congr hs (State.claim_congr hslots) hq ho fun h => .inl (hm ▸ h)

/-- Updates of other blocks. -/
theorem Safe.of_eq {s t : State} (hs : Safe s) (hslots : t.slots = s.slots) (hq : t.waitQueue = s.waitQueue)
    (ho : t.outputs = s.outputs) (hm : t.mode = s.mode) : Safe t :=
  hs.congr hslots hq (fun o => by rw [State.output, ho]; exact ⟨rfl, rfl, rfl⟩) hm

theorem Safe.notify {s : State} (hs : Safe s) (c : Client) (k : Notice) : Safe (s.notify c k) :=
  hs.of_eq (notify_slots s c k) (notify_waitQueue s c k) (notify_outputs s c k) (notify_spares s c k).mode

theorem Safe.tellEnd {t : State} (ht : Safe t) (l : Lease) (h : Handle) : Safe (t.tellEnd l h) :=
  ht.of_eq (tellEnd_slots t l h) (tellEnd_waitQueue t l h) (tellEnd_outputs t l h) (tellEnd_spares t l h).mode

/-- The outputs a lease holds are those its claim holds. -/
theorem Lease.heldOutputs_iff {l : Lease} {o : OutputId} :
    l.heldOutputs.getLsbD o = true ↔ l.phase.isLive = true ∧ l.outputs.getLsbD o = true := by
  unfold Lease.heldOutputs
  split <;> simp_all

/-- A slot closed with no claim left in it: its outputs fall unless others hold them (R12, R16, R33). -/
theorem Safe.closeSlot {s : State} (hs : Safe s) {i : SlotId} {l : Lease} (hl : s.leaseAt i = some l) {x : Option Lease}
    (hx : x.bind Lease.claim = none) : Safe (s.closeSlot i x l.heldOutputs (s.waitQueue.erase i)) := by
  have hspares := closeSlot_spares s i x l.heldOutputs (s.waitQueue.erase i)
  have hfollow := closeSlot_follow s i x l.heldOutputs (s.waitQueue.erase i)
  have hleaseAt : ∀ j, (s.closeSlot i x l.heldOutputs (s.waitQueue.erase i)).leaseAt j = if i = j then x else s.leaseAt j :=
    State.leaseAt_of_set (closeSlot_slots s i x l.heldOutputs (s.waitQueue.erase i))
  have hwait := closeSlot_waitQueue s i x l.heldOutputs (s.waitQueue.erase i)
  generalize s.closeSlot i x l.heldOutputs (s.waitQueue.erase i) = t at *
  have hclaim : ∀ j, t.claim j = if i = j then none else s.claim j := fun j => by
    rw [State.claim_of_set hleaseAt, hx]
  have hheldS : ∀ o : OutputId, l.heldOutputs.getLsbD o = true → s.held o = true := fun o ho => by
    obtain ⟨hlive, hlo⟩ := Lease.heldOutputs_iff.mp ho
    exact State.held_iff.mpr ⟨i, State.slotHolds_iff.mpr ⟨l, hl, hlive, hlo⟩⟩
  have hheld : ∀ o : OutputId, l.heldOutputs.getLsbD o = false → (t.held o = true ↔ s.held o = true) := by
    intro o ho
    simp only [State.held_iff, State.slotHolds_iff_claim, hclaim]
    refine exists_congr fun j => ?_
    split
    next hij =>
      subst hij
      constructor
      · simp
      · rintro ⟨c, hc, hco⟩
        obtain ⟨m, hm, hlive, hmo⟩ := State.slotHolds_iff.mp (State.slotHolds_iff_claim.mpr ⟨c, hc, hco⟩)
        obtain rfl := Option.some.inj (hl.symm.trans hm)
        exact absurd ((Lease.heldOutputs_iff.mpr ⟨hlive, hmo⟩).symm.trans ho) (by decide)
    next => rfl
  have hstate : ∀ o : OutputId, (t.output o).state =
      if l.heldOutputs.getLsbD o then (s.output o).follow (t.held o) else (s.output o).state := fun o => by
    rw [hfollow.outputs]
  have hOn : ∀ o : OutputId, l.heldOutputs.getLsbD o = true → (s.output o).state = .on := fun o ho =>
    (hs.on o).mpr (State.held_iff_claim.mp (hheldS o ho))
  unfold Safe
  rw [hspares.mode, hwait]
  refine Apart.fall hs (fun j c hc => ?_) hspares.partners (fun o => ?_) (fun o => ?_) (fun o ho => ?_) (fun j => ?_)
    (hs.nodup.erase i) (List.length_erase_le)
  · rw [hclaim] at hc
    split at hc
    · simp at hc
    · exact hc
  · rw [hstate, ← State.held_iff_claim]
    split
    next hS => cases ht : t.held o <;> simp [Output.follow, hOn o hS]; split <;> simp
    next hS =>
      rw [hheld o (by simpa using hS), State.held_iff_claim]
      exact hs.on o
  · rw [hstate, hspares.cutBy, ← hs.cut]
    split
    next hS => cases ht : t.held o <;> simp [Output.follow, hOn o hS]; split <;> simp
    next => rfl
  · rw [hstate] at ho
    split at ho
    next hS => exact .inr (hOn o hS)
    next => exact .inl ho
  · rw [hs.nodup.mem_erase_iff, hclaim]
    by_cases hij : i = j
    · subst hij
      simp only [ne_eq, not_true_eq_false, false_and, if_true, false_iff, not_and]
      intro hi hnone
      obtain ⟨c, hc, -⟩ := (hs.queued i).mp hi
      simp [← hnone] at hc
    · simp [hij, Ne.symm hij]

theorem Safe.endLease {s : State} (hs : Safe s) (i : SlotId) (why : EndReason) (d : Option FaultId) :
    Safe (s.endLease i why d) := by
  by_cases ha : ∃ l, s.leaseAt i = some l ∧ (l.phase.isWaiting = true ∨ l.phase.isLive = true)
  · obtain ⟨l, hl, ha⟩ := ha
    rw [endLease_eq hl ha]
    refine Safe.tellEnd ?_ _ _
    have hq : (if l.phase.isWaiting then s.waitQueue.erase i else s.waitQueue) = s.waitQueue.erase i := by
      split
      · rfl
      next hw =>
        refine (List.erase_of_not_mem fun hi => ?_).symm
        obtain ⟨c, hc, hcw⟩ := (hs.queued i).mp hi
        have := State.waitingAt_iff_claim.mpr ⟨c, hc, hcw⟩
        simp [State.waitingAt, hl, hw] at this
    rw [hq]
    exact hs.closeSlot hl rfl
  · rw [endLease_of_inactive fun l hl => by simpa using fun h => ha ⟨l, hl, h⟩]
    exact hs

theorem Safe.freeSlot {s : State} (hs : Safe s) (i : SlotId) : Safe (s.freeSlot i) := by
  cases hl : s.leaseAt i with
  | none => rw [freeSlot_of_none hl]; exact hs
  | some l => rw [freeSlot_eq hl]; exact hs.closeSlot hl rfl

/-- What the admission test says of the outputs and the holders (R51), its fourth condition apart. -/
theorem State.admissible_facts {s : State} {ahead : List SlotId} {S : OutputSet} {k : Kind}
    (h : s.admissible ahead S k = true) :
    (∀ o : OutputId, S.getLsbD o = true → (s.output o).state ≠ .cut) ∧
    (∀ o : OutputId, S.getLsbD o = true → (k = .sole → s.held o = false) ∧ (k = .shared → s.soleHeld o = false)) ∧
    ∀ o p : OutputId, S.getLsbD o = true → (s.output o).partners.getLsbD p = true →
      (s.output p).state ≠ .on ∧ (s.output p).state ≠ .settle := by
  simp only [State.admissible, Bool.and_eq_true, Bool.not_eq_true'] at h
  obtain ⟨⟨⟨hcut, hkind⟩, hbusy⟩, -⟩ := h
  refine ⟨fun o ho => ?_, fun o ho => ?_, fun o p ho hp => ?_⟩
  · simp only [State.anyCut, List.any_eq_false, mem_members, beq_iff_eq] at hcut
    exact hcut o ho
  · simp only [State.kindFree, List.all_eq_true, mem_members] at hkind
    have := hkind o ho
    cases k <;> simp_all
  · simp only [State.partnerBusy, List.any_eq_false, mem_members, State.restrains, Bool.or_eq_true, beq_iff_eq, not_or]
      at hbusy
    exact hbusy p (mem_partnersOf.mpr ⟨o, ho, hp⟩)

/-- A live claim that passed the admission test: its outputs rise (R32, R51). -/
theorem Safe.goLive {s b : State} (hs : Safe s) {ahead : List SlotId} {i : SlotId} {S : OutputSet} {k : Kind}
    (hadm : s.admissible ahead S k = true) (hmode : s.mode ≠ .setup) (hnew : ∀ c, s.claim i = some c → c.waiting = true)
    (hpair : ∀ a b : OutputId, S.getLsbD a = true → S.getLsbD b = true → (s.output a).partners.getLsbD b = false)
    (hclaim : ∀ j, b.claim j = if i = j then some ⟨false, S, k⟩ else s.claim j) (hout : b.outputs = s.outputs)
    (hqueue : b.waitQueue = s.waitQueue.erase i) (hbmode : b.mode = s.mode) : Safe (b.recomputeAll S) := by
  obtain ⟨hcut, hkind, hbusy⟩ := State.admissible_facts hadm
  unfold Safe
  rw [recomputeAll_waitQueue, (recomputeAll_spares b S).mode, hbmode, State.claim_congr (recomputeAll_slots b S)]
  refine Apart.rise hs hmode hnew hclaim (fun o => ?_) hqueue hpair hcut (fun o ho j c hc hco => ?_) hbusy
  · have hsame : b.output o = s.output o := by rw [State.output, hout, State.output]
    rw [b.output_recomputeAll, hsame]
    by_cases ho : S.getLsbD o = true
    · have hheld : b.held o = true := State.held_iff_claim.mpr ⟨i, _, by rw [hclaim, if_pos rfl], rfl, ho⟩
      have := hcut o ho
      rw [if_pos ho, if_pos ho, hheld]
      cases hst : (s.output o).state <;> simp_all [Output.follow]
    · rw [if_neg ho, if_neg ho]
  · have hheld : s.slotHolds o j = true := State.slotHolds_iff_claim.mpr ⟨c, hc, hco⟩
    constructor
    · intro hk
      have := State.held_eq_false.mp ((hkind o ho).1 hk) j
      simp [hheld] at this
    · intro hck
      -- a sole holder is the only one, so the output is sole-held
      have honly : s.holdersOf o = [j] := by
        have hmem : ∀ j', j' ∈ s.holdersOf o ↔ j' = j := by
          intro j'
          simp only [State.holdersOf, List.mem_filter, List.mem_finRange, true_and]
          constructor
          · intro hj'
            obtain ⟨d, hd, hdo⟩ := State.slotHolds_iff_claim.mp hj'
            exact (hs.sole hc hd hco hdo hck).symm
          · rintro rfl; exact hheld
        have hnd : (s.holdersOf o).Nodup := (List.nodup_finRange 32).filter _
        exact List.perm_singleton.mp ((List.perm_ext_iff_of_nodup hnd (List.nodup_singleton j)).mpr (by simpa using hmem))
      have hsole : s.soleHeld o = true := by
        rw [State.soleHeld, honly]; exact (Lease.slotSole_iff hc).mpr hck
      cases k with
      | sole => have := State.held_eq_false.mp ((hkind o ho).1 rfl) j; simp [hheld] at this
      | shared => simp [(hkind o ho).2 rfl] at hsole

theorem Safe.grantWaiting {s : State} (hs : Safe s) {i : SlotId} {l : Lease} {ahead : List SlotId}
    (hl : s.leaseAt i = some l) (hw : l.phase.isWaiting = true) (ha : s.admissible ahead l.outputs l.kind = true) :
    Safe (s.grantWaiting i l) := by
  have hc : s.claim i = some ⟨true, l.outputs, l.kind⟩ := by
    rw [State.claim, hl, Option.bind_some, Lease.claim_of_waiting hw]
  have hmode : s.mode ≠ .setup := fun hm => by simp [hs.setup hm i] at hc
  have hnew : ∀ c, s.claim i = some c → c.waiting = true := fun c hc' => by
    obtain rfl := Option.some.inj (hc.symm.trans hc'); rfl
  have hclaim : ∀ j, (s.grantedSlot i l).claim j = if i = j then some ⟨false, l.outputs, l.kind⟩ else s.claim j :=
    State.claim_of_set (State.leaseAt_of_set (x := ⟨(s.slot i).generation, some (l.granted s.clock)⟩) rfl)
  rw [grantWaiting_eq]
  exact (hs.goLive ha hmode hnew (hs.pair hc) hclaim rfl rfl rfl).notify _ _

/-- A record rewritten with the same claim. -/
theorem Safe.putLease {s : State} (hs : Safe s) {i : SlotId} {l : Lease} {x : Option Lease} (hl : s.leaseAt i = some l)
    (hx : x.bind Lease.claim = l.claim) : Safe (s.putLease i x) := by
  refine Apart.congr hs (funext fun j => ?_) rfl (fun o => ⟨rfl, rfl, rfl⟩) fun h => .inl h
  rw [State.claim_of_set (s.leaseAt_putLease i · x), hx]
  split
  next hij => rw [State.claim, ← hij, hl, Option.bind_some]
  next => rfl

/-- The relation changes in SETUP alone, where no output is ON (R46, R155). -/
theorem Safe.setPair {s : State} (hs : Safe s) {a b : OutputId} (p : Bool) (hm : s.mode = .setup) (hab : a ≠ b) :
    Safe (s.setPair a b p) := by
  have hout : ∀ o, (s.setPair a b p).output o = { s.output o with
      partners := if o = a then (if p then (s.output a).partners ||| oneOutput b else (s.output a).partners &&& ~~~(oneOutput b))
        else if o = b then (if p then (s.output b).partners ||| oneOutput a else (s.output b).partners &&& ~~~(oneOutput a))
        else (s.output o).partners } := by
    intro o
    unfold State.setPair
    cases p <;>
      (by_cases hoa : o = a
       · subst hoa; simp [hab, Ne.symm hab]
       · by_cases hob : o = b
         · subst hob; simp [hoa, Ne.symm hoa]
         · simp [hoa, hob, Ne.symm hoa, Ne.symm hob])
  have hmode : (s.setPair a b p).mode = s.mode := by unfold State.setPair; split <;> rfl
  have hqueue : (s.setPair a b p).waitQueue = s.waitQueue := by unfold State.setPair; split <;> rfl
  have hbit : ∀ x y : OutputId, (oneOutput x).getLsbD y = decide (x = y) := fun x y => by
    have := y.isLt
    simp [oneOutput, Fin.ext_iff, eq_comm]
  have hbits : ∀ x y : OutputId, ((s.setPair a b p).output x).partners.getLsbD y =
      if (x = a ∧ y = b) ∨ (x = b ∧ y = a) then p else (s.output x).partners.getLsbD y := by
    intro x y
    have := y.isLt
    rw [hout]
    by_cases hxa : x = a
    · subst hxa
      by_cases hy : y = b
      · subst hy; cases p <;> simp [hbit]
      · cases p <;> simp [-BitVec.getLsbD_eq_getElem, hbit, hab, hy, Ne.symm hy]
    · by_cases hxb : x = b
      · subst hxb
        by_cases hy : y = a
        · subst hy; cases p <;> simp [hbit, hxa]
        · cases p <;> simp [-BitVec.getLsbD_eq_getElem, hbit, hxa, hy, Ne.symm hy]
      · simp [hxa, hxb]
  unfold Safe
  rw [State.claim_congr (setPair_slots s a b p), hmode, hqueue]
  refine Apart.repartner hs (hs.setup hm) (fun o => by rw [hout]; exact ⟨rfl, rfl⟩) (fun x y => ?_) fun x => ?_
  · rw [hbits, hbits]
    have hiff : ((x = a ∧ y = b) ∨ (x = b ∧ y = a)) ↔ ((y = a ∧ x = b) ∨ (y = b ∧ x = a)) := by tauto
    simp only [hiff, hs.symm x y]
  · rw [hbits, if_neg, hs.irrefl]
    rintro (⟨rfl, rfl⟩ | ⟨rfl, rfl⟩) <;> exact hab rfl

/-- One output rewritten, under the same claims. -/
theorem Safe.putOutput {s : State} (hs : Safe s) {o : OutputId} {x : Output} (hp : x.partners = (s.output o).partners)
    (hon : x.state = .on ↔ s.held o = true) (hcut : x.state = .cut ↔ x.cutBy ≠ 0)
    (hsettle : x.state = .settle → (s.output o).state = .settle) : Safe (s.putOutput o x) := by
  unfold Safe
  refine Apart.fall hs (fun _ _ h => h) (fun p => ?_) (fun p => ?_) (fun p => ?_) (fun p => ?_) (fun j => ?_) hs.nodup le_rfl
  · rw [s.output_putOutput]
    split
    next h => rw [hp, h]
    next => rfl
  · rw [s.output_putOutput]
    split
    next h => subst h; exact hon.trans State.held_iff_claim
    next => exact hs.on p
  · rw [s.output_putOutput]
    split
    next h => exact hcut
    next => exact hs.cut p
  · rw [s.output_putOutput]
    split
    next h => subst h; exact fun hx => .inl (hsettle hx)
    next => exact .inl
  · exact (and_iff_left rfl).symm

theorem Safe.held_iff {s : State} (hs : Safe s) (o : OutputId) : s.held o = true ↔ (s.output o).state = .on :=
  State.held_iff_claim.trans (hs.on o).symm

/-- The operations against the safety laws. -/
theorem safe_untimed : Untimed Safe where
  outside _ _ _ _ _ _ _ hs := hs
  writeSlot _ _ hs := hs
  conclude _ _ hs := hs
  notify c k hs := hs.notify c k
  freeSlot i hs := hs.freeSlot i
  endLease i why d hs := hs.endLease i why d
  grantWaiting hl hw ha hs := hs.grantWaiting hl hw ha
  relabel hl h hs := hs.putLease hl h.claim_eq
  setOutcome _ _ _ hs := hs
  ackEnd hl hw hlive hs := hs.putLease hl (Lease.claim_of_inactive hw hlive).symm
  grantNew {s c r k i} _ hfit ha hs := by
    have hnone : s.claim i = none := by rw [State.claim, hfit.free]; rfl
    have hi : i ∉ s.waitQueue := fun hi => by
      obtain ⟨c, hc, -⟩ := (hs.queued i).mp hi
      simp [hnone] at hc
    refine hs.goLive (b := s.takenLive c r k i) (i := i) ha (by simp [hfit.mode]) (by simp [hnone])
      (State.pairFree_iff.mp hfit.pairs) (fun j => ?_) rfl (List.erase_of_not_mem hi).symm rfl
    exact State.claim_of_set (t := s.takenLive c r k i)
      (State.leaseAt_of_set (x := ⟨nextGeneration (s.slot i).generation, _⟩) rfl) j
  queueNew {s c r k i} _ hfit hlen hs := by
    have hnone : s.claim i = none := by rw [State.claim, hfit.free]; rfl
    exact Apart.enqueue hs (by simp [hfit.mode]) hnone
      (State.claim_of_set (t := (s.queueNew c r k i).1) (leaseAt_queueNew s c r k i)) (State.pairFree_iff.mp hfit.pairs) hlen
  offer hl hp _ _ hs := hs.putLease hl (by rw [Lease.claim_of_live (l := _) (by rw [hp]; rfl)]; rfl)
  accept {s i l ga d c _ _} hl hp _ _ hs :=
    Safe.of_eq (s := s.putLease i (some { l with holder := c, phase := .live ga d }))
      (hs.putLease hl (by rw [Lease.claim_of_live (l := l) (by rw [hp]; rfl)]; rfl)) rfl rfl rfl rfl
  start {s} _ hs := Apart.congr hs rfl rfl (fun o => ⟨rfl, rfl, rfl⟩) nofun
  halt {s} hlive hwait hs := by
    refine Apart.congr hs rfl rfl (fun o => ⟨rfl, rfl, rfl⟩) fun _ => .inr fun i => ?_
    refine State.claim_eq_none_iff.mpr ⟨?_, hlive i⟩
    by_contra hw
    have hw := State.waitingAt_iff_claim.mp (by simpa using hw)
    have := hwait i ((hs.queued i).mpr hw)
    rw [Bool.eq_false_iff] at this
    exact this (State.waitingAt_iff_claim.mpr hw)
  setOutput o m g d hs := hs.putOutput rfl (hs.held_iff o).symm (hs.cut o) id
  setPair p hm hab hs := hs.setPair p hm hab
  setQuota _ hs := hs
  setMask _ _ hs := hs
  readNotices _ hs := hs
  openFresh _ _ hs := hs
  closeRecord _ hs := hs
  settleOff {s o} hst hs := by
    refine hs.putOutput rfl ?_ ?_ nofun
    · rw [hs.held_iff, hst]; simp
    · have := hs.cut o
      simp_all
  uncutOutput {s} ch o hs := by
    have hcut := hs.cut o
    have hon := hs.held_iff o
    refine hs.putOutput rfl ?_ ?_ ?_
    · dsimp only
      split
      next h => rw [hon, h.1]; simp
      next => exact hon.symm
    · dsimp only
      split
      next h => simp [h.2]
      next h =>
        by_cases hst : (s.output o).state = .cut
        · simp only [hst, true_iff]
          exact fun h0 => h ⟨hst, h0⟩
        · have h0 : (s.output o).cutBy = 0 := by simpa [hst] using hcut
          simp [hst, h0]
    · dsimp only
      split
      · simp
      · exact id
  cutOutput {s o} ch hheld hs := by
    have hput : Safe (s.putOutput o { s.output o with state := .cut, cutBy := (s.output o).cutBy ||| oneFault ch }) := by
      refine hs.putOutput rfl (by simp [hheld]) ?_ nofun
      simp only [true_iff]
      intro h
      have hbit : ((s.output o).cutBy ||| oneFault ch).getLsbD ch = true := by
        have := ch.isLt
        simp [oneFault]
      simp [h] at hbit
    unfold cutOutput
    dsimp only
    split
    · exact hput
    · exact hput

theorem safe_of_reset {t : State} (hslots : t.slots = State.reset.slots) (ho : t.outputs = State.reset.outputs)
    (hq : t.waitQueue = []) : Safe t := by
  have hnone : ∀ i, t.claim i = none := fun i => by rw [State.claim, State.leaseAt_of_reset hslots]; rfl
  have hout : ∀ o, t.output o = Output.reset := fun o => by simp [State.output, ho, State.reset]
  unfold Safe
  constructor <;> simp [hnone, hout, hq, Held, Output.reset]

/-- Settles O56: the safety laws are laws of the claims, and every operation drops a claim, lets an admitted one go live or
queues one, or moves the outputs under the same claims. -/
theorem stepKeepsPartnersApart : Obligations.StepKeepsPartnersApart := by
  unfold Obligations.StepKeepsPartnersApart
  intro s t hs ht
  rw [safetyLaw_iff_safe] at hs ⊢
  exact safe_untimed.kept.step (fun _ _ _ _ => safe_of_reset rfl rfl rfl) hs ht

end Sys2Proof.Machine
end

section
/-! SUPPORT. Expiry queues that track what the state calls for (R73 to R76): one entry for each kind and subject called for, at
the recorded deadline, in the order of ticks remaining. What removing and inserting one entry does to that, and what each
rewriting of a slot, an output or a fault channel calls for anew or no longer. -/

namespace Sys2Proof.Machine

/-! ### Ticks remaining -/

theorem remaining_after {now : Tick} {n : Nat} (h : n ≤ Config.maxTicks) : remaining now (now + BitVec.ofNat 32 n) = n := by
  have hn : n < 2 ^ 32 := lt_of_le_of_lt h (by decide)
  have hsub : now + BitVec.ofNat 32 n - now = BitVec.ofNat 32 n := by bv_omega
  rw [remaining, hsub, BitVec.toNat_ofNat, Nat.mod_eq_of_lt hn]

theorem remaining_eq_zero {now d : Tick} : remaining now d = 0 ↔ d = now := by
  unfold remaining
  bv_omega

/-- A tick later one tick less remains, but to what is due (R75). -/
theorem remaining_tick {now d : Tick} (h : d ≠ now) : remaining (now + 1) d + 1 = remaining now d := by
  unfold remaining
  bv_omega

/-! ### Queues that track -/

/-- At time `now` the queue `q` holds exactly one entry for each key called for, at the deadline recorded for it, in the order
of ticks remaining, none too far ahead, and what is due of it stands in the list `due`. -/
structure Tracks (now : Tick) (due : List Entry) (calls : Key → Bool) (recd : Key → Option Tick) (q : List Entry) : Prop where
  nodup : (q.map Entry.key).Nodup
  called : ∀ k, k ∈ q.map Entry.key ↔ calls k = true
  recorded : ∀ e ∈ q, recd e.key = none ∨ recd e.key = some e.deadline
  ordered : InTickOrder now q
  near : ∀ e ∈ q, remaining now e.deadline ≤ Config.maxTicks
  fresh : ∀ e ∈ q, e.deadline = now → e ∈ due

namespace Tracks

variable {now : Tick} {D : List Entry} {calls calls' : Key → Bool} {recd recd' : Key → Option Tick} {q : List Entry}

theorem calls_of_mem (h : Tracks now D calls recd q) {e : Entry} (he : e ∈ q) : calls e.key = true :=
  (h.called e.key).mp (List.mem_map_of_mem he)

theorem congr (h : Tracks now D calls recd q) (hc : ∀ k, calls' k = calls k)
    (hr : ∀ k, calls k = true → recd' k = recd k) : Tracks now D calls' recd' q where
  nodup := h.nodup
  called k := by rw [hc]; exact h.called k
  recorded e he := by rw [hr _ (h.calls_of_mem he)]; exact h.recorded e he
  ordered := h.ordered
  near := h.near
  fresh := h.fresh

theorem weaken (h : Tracks now D calls recd q) {D' : List Entry} (hD : ∀ e ∈ q, e.deadline = now → e ∈ D') :
    Tracks now D' calls recd q := { h with fresh := hD }

/-- The entry for `k`, if there is one, goes, and is no longer called for. -/
theorem drop (h : Tracks now D calls recd q) (k : Key) (hc : ∀ j, calls' j = (calls j && decide (j ≠ k)))
    (hr : ∀ j, j ≠ k → calls j = true → recd' j = recd j) : Tracks now D calls' recd' (removeEntry k q) where
  nodup := h.nodup.sublist (List.filter_sublist.map _)
  called j := by
    rw [hc, Bool.and_eq_true, decide_eq_true_eq, ← h.called]
    simp only [List.mem_map, mem_removeEntry]
    constructor
    · rintro ⟨e, ⟨he, hk⟩, rfl⟩; exact ⟨⟨e, he, rfl⟩, hk⟩
    · rintro ⟨⟨e, he, rfl⟩, hk⟩; exact ⟨e, ⟨he, hk⟩, rfl⟩
  recorded e he := by
    obtain ⟨he, hk⟩ := mem_removeEntry.mp he
    rw [hr _ hk (h.calls_of_mem he)]
    exact h.recorded e he
  ordered := h.ordered.filter _
  near e he := h.near e (mem_removeEntry.mp he).1
  fresh e he := h.fresh e (mem_removeEntry.mp he).1

/-- An entry for `k` is inserted, 1 to 600000 ticks ahead, and now called for. -/
theorem add (h : Tracks now D calls recd q) {k : Key} {n : Nat} (hk : calls k = false) (h1 : 1 ≤ n)
    (hn : n ≤ Config.maxTicks) (hc : ∀ j, calls' j = (calls j || decide (j = k)))
    (hr : ∀ j, j ≠ k → calls j = true → recd' j = recd j)
    (hrk : recd' k = none ∨ recd' k = some (now + BitVec.ofNat 32 n)) :
    Tracks now D calls' recd' (insertEntry now ⟨now + BitVec.ofNat 32 n, k⟩ q) where
  nodup := by
    have hperm := (insertEntry_perm now ⟨now + BitVec.ofNat 32 n, k⟩ q).map Entry.key
    rw [hperm.nodup_iff, List.map_cons, List.nodup_cons]
    exact ⟨fun hmem => by simp [(h.called k).mp hmem] at hk, h.nodup⟩
  called j := by
    rw [hc, Bool.or_eq_true, decide_eq_true_eq, ← h.called]
    simp only [List.mem_map, mem_insertEntry]
    constructor
    · rintro ⟨e, rfl | he, rfl⟩
      · exact .inr rfl
      · exact .inl ⟨e, he, rfl⟩
    · rintro (⟨e, he, rfl⟩ | rfl)
      · exact ⟨e, .inr he, rfl⟩
      · exact ⟨_, .inl rfl, rfl⟩
  recorded e he := by
    rcases mem_insertEntry.mp he with rfl | he
    · exact hrk
    · have hcalls := h.calls_of_mem he
      rw [hr _ (fun hek => by simp [hek, hk] at hcalls) hcalls]
      exact h.recorded e he
  ordered := insertEntry_inTickOrder _ h.ordered
  near e he := by
    rcases mem_insertEntry.mp he with rfl | he
    · exact (remaining_after hn).trans_le hn
    · exact h.near e he
  fresh e he hdue := by
    rcases mem_insertEntry.mp he with rfl | he
    · have := remaining_eq_zero.mpr hdue
      rw [remaining_after hn] at this
      omega
    · exact h.fresh e he hdue

/-- The front entry is taken out (R79). -/
theorem pop {e : Entry} (h : Tracks now D calls recd (e :: q)) (hc : ∀ j, calls' j = (calls j && decide (j ≠ e.key))) :
    Tracks now (D.erase e) calls' recd q := by
  obtain ⟨hne, hnd⟩ := List.nodup_cons.mp (List.map_cons ▸ h.nodup)
  have hkey : ∀ x ∈ q, x.key ≠ e.key := fun x hx hxe => hne (hxe ▸ List.mem_map_of_mem hx)
  exact
    { nodup := hnd
      called := fun j => by
        rw [hc, Bool.and_eq_true, decide_eq_true_eq, ← h.called, List.map_cons, List.mem_cons]
        constructor
        · intro hj
          exact ⟨.inr hj, fun hje => hne (hje ▸ hj)⟩
        · rintro ⟨hj | hj, hje⟩
          · exact absurd hj hje
          · exact hj
      recorded := fun x hx => h.recorded x (List.mem_cons_of_mem _ hx)
      ordered := h.ordered.of_cons
      near := fun x hx => h.near x (List.mem_cons_of_mem _ hx)
      fresh := fun x hx hdue =>
        (List.mem_erase_of_ne fun hxe => hkey x hx (congrArg Entry.key hxe)).mpr (h.fresh x (List.mem_cons_of_mem _ hx) hdue) }

/-- With nothing due, a tick leaves the order and the distances as they should be (R75). -/
theorem tick (h : Tracks now D calls recd q) (hdue : ∀ e ∈ q, e.deadline ≠ now) : Tracks (now + 1) q calls recd q where
  nodup := h.nodup
  called := h.called
  recorded := h.recorded
  ordered := h.ordered.imp_of_mem fun {a b} ha hb hab => by
    have := remaining_tick (hdue a ha)
    have := remaining_tick (hdue b hb)
    omega
  near e he := by
    have := remaining_tick (hdue e he)
    have := h.near e he
    omega
  fresh e he _ := he

end Tracks

/-! ### What a slot calls for -/

theorem mem_allKeys (k : Key) : k ∈ allKeys := by
  cases k <;> simp [allKeys]

/-- The keys of slot `i`. -/
theorem Key.eq_of_ofSlot {i : SlotId} {k : Key} (h : k.ofSlot i = true) : k = .lease i ∨ k = .offer i ∨ k = .wait i := by
  simpa [Key.ofSlot, or_assoc] using h

/-- What a slot that holds `x` calls for, of the kinds that a slot has (R74). -/
def slotCalls (x : Option Lease) : Key → Bool
  | .lease _ => x.any fun l => l.phase.isLive
  | .offer _ => x.any fun l => l.phase.offerDeadline.isSome
  | .wait _ => x.any fun l => l.phase.isWaiting
  | .settle _ => false
  | .recover _ => false
  | .quiet _ => false

/-- What a slot that holds `x` records as the deadline, of the kinds that a slot has (R74). -/
def slotRecords (x : Option Lease) : Key → Option Tick
  | .lease _ => x.bind fun l => l.phase.deadline
  | .offer _ => x.bind fun l => l.phase.offerDeadline
  | .wait _ => x.bind fun l => l.phase.waitDeadline
  | .settle _ => none
  | .recover _ => none
  | .quiet _ => none

theorem State.offeredAt_eq (s : State) (i : SlotId) :
    s.offeredAt i = (s.leaseAt i).any fun l => l.phase.offerDeadline.isSome := by
  unfold State.offeredAt
  cases s.leaseAt i <;> rfl

theorem State.callsFor_of_ofSlot {s : State} {i : SlotId} {k : Key} (h : k.ofSlot i = true) :
    s.callsFor k = slotCalls (s.leaseAt i) k := by
  rcases Key.eq_of_ofSlot h with rfl | rfl | rfl
  · exact s.liveAt_eq i
  · exact s.offeredAt_eq i
  · exact s.waitingAt_eq i

theorem State.recorded_of_ofSlot {s : State} {i : SlotId} {k : Key} (h : k.ofSlot i = true) :
    s.recorded k = slotRecords (s.leaseAt i) k := by
  rcases Key.eq_of_ofSlot h with rfl | rfl | rfl <;> rfl

/-- One slot rewritten, and no output or channel that settles, recovers or is quiet otherwise than before. -/
theorem State.callsFor_of_set {s t : State} {i : SlotId} {x : Option Lease}
    (h : ∀ j, t.leaseAt j = if i = j then x else s.leaseAt j) (ho : t.outputs = s.outputs) (hf : t.faults = s.faults)
    (k : Key) : t.callsFor k = if k.ofSlot i then slotCalls x k else s.callsFor k := by
  split
  next hk => rw [State.callsFor_of_ofSlot hk, h, if_pos rfl]
  next hk =>
    have hother : ∀ j, k.ofSlot j = true → t.leaseAt j = s.leaseAt j := fun j hj => by
      rw [h, if_neg]
      rintro rfl
      exact hk hj
    cases k with
    | lease j | offer j | wait j =>
      rw [State.callsFor_of_ofSlot (i := j) (by simp [Key.ofSlot]), State.callsFor_of_ofSlot (i := j) (by simp [Key.ofSlot]),
        hother j (by simp [Key.ofSlot])]
    | settle o => simp only [State.callsFor, State.output, ho]
    | recover ch | quiet ch =>
      have hfault : t.fault ch = s.fault ch := by rw [State.fault, hf, State.fault]
      simp only [State.callsFor, hfault]

theorem State.recorded_of_set {s t : State} {i : SlotId} {x : Option Lease}
    (h : ∀ j, t.leaseAt j = if i = j then x else s.leaseAt j) (k : Key) :
    t.recorded k = if k.ofSlot i then slotRecords x k else s.recorded k := by
  split
  next hk => rw [State.recorded_of_ofSlot hk, h, if_pos rfl]
  next hk =>
    have hother : ∀ j, k.ofSlot j = true → t.leaseAt j = s.leaseAt j := fun j hj => by
      rw [h, if_neg]
      rintro rfl
      exact hk hj
    cases k with
    | lease j | offer j | wait j =>
      rw [State.recorded_of_ofSlot (i := j) (by simp [Key.ofSlot]), State.recorded_of_ofSlot (i := j) (by simp [Key.ofSlot]),
        hother j (by simp [Key.ofSlot])]
    | settle o | recover ch | quiet ch => rfl

theorem State.callsFor_congr {s t : State} (hs : t.slots = s.slots)
    (ho : ∀ o, (t.output o).state = .settle ↔ (s.output o).state = .settle)
    (hf : ∀ ch, (t.fault ch).state = (s.fault ch).state ∧ (t.fault ch).tripCount = (s.fault ch).tripCount) (k : Key) :
    t.callsFor k = s.callsFor k := by
  cases k with
  | lease i => simp only [State.callsFor, State.liveAt, State.leaseAt_congr hs]
  | offer i => simp only [State.callsFor, State.offeredAt, State.leaseAt_congr hs]
  | wait i => simp only [State.callsFor, State.waitingAt, State.leaseAt_congr hs]
  | settle o =>
    show ((t.output o).state == .settle) = ((s.output o).state == .settle)
    rw [Bool.eq_iff_iff]
    simpa using ho o
  | recover ch => simp only [State.callsFor, (hf ch).1]
  | quiet ch => simp only [State.callsFor, (hf ch).1, (hf ch).2]

theorem State.recorded_congr {s t : State} (hs : t.slots = s.slots) : t.recorded = s.recorded := by
  funext k
  cases k <;> simp only [State.recorded, State.leaseAt_congr hs]

theorem State.callsFor_putOutput (s : State) (o : OutputId) (x : Output) (k : Key) :
    (s.putOutput o x).callsFor k = if k = .settle o then x.state == .settle else s.callsFor k := by
  cases k with
  | settle p =>
    simp only [State.callsFor, s.output_putOutput, Key.settle.injEq]
    by_cases hp : o = p
    · simp [hp]
    · simp [hp, Ne.symm hp]
  | _ => rfl

theorem State.callsFor_putFault (s : State) (ch : FaultId) (x : FaultChannel) (k : Key) :
    (s.putFault ch x).callsFor k =
      if k = .recover ch then x.state == .recovering
      else if k = .quiet ch then x.state == .idle && decide (0 < x.tripCount)
      else s.callsFor k := by
  cases k with
  | recover c | quiet c =>
    simp only [State.callsFor, s.fault_putFault]
    by_cases hc : ch = c
    · simp [hc]
    · simp [hc, Ne.symm hc]
  | _ => rfl

/-! ### The queue of a state -/

/-- The expiry queue tracks what the state calls for, the keys of `M` apart, and the settings lie in their ranges. -/
structure Timed (M : Key → Bool) (D : List Entry) (s : State) : Prop where
  tracks : Tracks s.clock D (fun k => s.callsFor k && !M k) s.recorded s.expiry
  setting : s.SettingLaw

/-- No key is missing. -/
def allThere : Key → Bool := fun _ => false

namespace Timed

variable {M M' : Key → Bool} {D : List Entry} {s t : State}

/-- The same clock and queue, with the calls and records of what is in the queue. -/
theorem remask (h : Timed M D s) (hc : t.clock = s.clock) (he : t.expiry = s.expiry) (hset : t.SettingLaw)
    (hr : t.recorded = s.recorded) (hcalls : ∀ k, (t.callsFor k && !M' k) = (s.callsFor k && !M k)) : Timed M' D t where
  tracks := by rw [hc, he, hr]; exact h.tracks.congr hcalls fun _ _ => rfl
  setting := hset

/-- What is missing is not called for. -/
theorem unmask (h : Timed M D s) (hM : ∀ k, M k = true → s.callsFor k = false) : Timed allThere D s :=
  h.remask rfl rfl h.setting rfl fun k => by
    cases hk : M k
    · rfl
    · simp [hM k hk, allThere]

theorem weaken (h : Timed M D s) : Timed M s.expiry s := ⟨h.tracks.weaken fun _ he _ => he, h.setting⟩

theorem of_eq (h : Timed M D s) (hc : t.clock = s.clock) (he : t.expiry = s.expiry) (hs : t.slots = s.slots)
    (ho : t.outputs = s.outputs) (hf : t.faults = s.faults) : Timed M D t := by
  have hout : ∀ o, t.output o = s.output o := fun o => by rw [State.output, ho, State.output]
  have hfault : ∀ ch, t.fault ch = s.fault ch := fun ch => by rw [State.fault, hf, State.fault]
  refine h.remask hc he ?_ (State.recorded_congr hs) fun k => ?_
  · simpa only [State.SettingLaw, hout, hfault] using h.setting
  · rw [State.callsFor_congr hs (fun o => by rw [hout]) fun ch => by rw [hfault]; exact ⟨rfl, rfl⟩]

theorem notify (h : Timed M D s) (c : Client) (k : Notice) : Timed M D (s.notify c k) :=
  h.of_eq (notify_spares s c k).clock (notify_expiry s c k) (notify_slots s c k) (notify_outputs s c k)
    (notify_spares s c k).faults

theorem tellEnd (h : Timed M D s) (l : Lease) (hd : Handle) : Timed M D (s.tellEnd l hd) :=
  h.of_eq (tellEnd_spares s l hd).clock (tellEnd_expiry s l hd) (tellEnd_slots s l hd) (tellEnd_outputs s l hd)
    (tellEnd_spares s l hd).faults

theorem settingLaw_putOutput (h : s.SettingLaw) (o : OutputId) {x : Output} (hm : x.maxTerm ≤ Config.maxTicks)
    (hg : x.gap ≤ Config.maxGap) : (s.putOutput o x).SettingLaw := by
  refine ⟨fun p => ?_, h.2⟩
  rw [s.output_putOutput]
  split
  · exact ⟨hm, hg⟩
  · exact h.1 p

/-- An output record rewritten, settling as much as it did. -/
theorem putOutput (h : Timed M D s) (o : OutputId) {x : Output} (hm : x.maxTerm ≤ Config.maxTicks)
    (hg : x.gap ≤ Config.maxGap) (hx : x.state = .settle ↔ (s.output o).state = .settle) : Timed M D (s.putOutput o x) :=
  h.remask (t := s.putOutput o x) rfl rfl (settingLaw_putOutput h.setting o hm hg) rfl fun k => by
    rw [s.callsFor_putOutput]
    split
    next hk =>
      subst hk
      have hsettle : (x.state == .settle) = ((s.output o).state == .settle) := by
        rw [Bool.eq_iff_iff]
        simpa using hx
      rw [hsettle]; rfl
    next => rfl

/-- An output goes from ON to SETTLE with its entry (R33). -/
theorem settle (h : Timed M D s) {o : OutputId} (hM : M (.settle o) = false) (hst : (s.output o).state = .on)
    (hg : 0 < (s.output o).gap) :
    Timed M D ((s.putOutput o { s.output o with state := .settle }).schedule (.settle o) (s.output o).gap) where
  tracks := by
    have hgap : (s.output o).gap ≤ Config.maxTicks := (h.setting.1 o).2.trans (by decide)
    refine h.tracks.add (k := .settle o) ?_ hg hgap (fun j => ?_) (fun _ _ _ => rfl) (.inl rfl)
    · simp [State.callsFor, hst]
    · show ((s.putOutput o { s.output o with state := .settle }).callsFor j && !M j) = _
      rw [s.callsFor_putOutput]
      by_cases hj : j = .settle o
      · subst hj; simp [hM]
      · simp [hj]
  setting := settingLaw_putOutput h.setting o (h.setting.1 o).1 (h.setting.1 o).2

/-- An output leaves SETTLE and its entry goes (R32, R35). -/
theorem unsettle (h : Timed M D s) {o : OutputId} {x : Output} (hm : x.maxTerm ≤ Config.maxTicks)
    (hg : x.gap ≤ Config.maxGap) (hx : x.state ≠ .settle) : Timed M D ((s.putOutput o x).unschedule (.settle o)) where
  tracks := by
    refine h.tracks.drop (.settle o) (fun j => ?_) fun _ _ _ => rfl
    show ((s.putOutput o x).callsFor j && !M j) = _
    rw [s.callsFor_putOutput]
    by_cases hj : j = .settle o
    · subst hj; simp [hx]
    · simp [hj]
  setting := settingLaw_putOutput h.setting o hm hg

theorem recompute (h : Timed M D s) (hM : ∀ o, M (.settle o) = false) (o : OutputId) : Timed M D (s.recompute o) := by
  obtain ⟨hm, hg⟩ := h.setting.1 o
  unfold State.recompute
  dsimp only
  split
  next hst _ =>
    split
    next hgap => exact h.settle (hM o) hst hgap.1
    next => exact h.putOutput o hm hg (by simp [hst])
  next hst _ => exact h.putOutput o hm hg (by simp [hst])
  next hst _ => exact h.unsettle hm hg (by simp)
  next => exact h

theorem recomputeAll (h : Timed M D s) (hM : ∀ o, M (.settle o) = false) (S : OutputSet) :
    Timed M D (s.recomputeAll S) := Kept.foldl (P := Timed M D) (fun o hs => recompute hs hM o) _ h

theorem uncutOutput (h : Timed M D s) (ch : FaultId) (o : OutputId) : Timed M D (uncutOutput ch s o) := by
  refine h.putOutput o (h.setting.1 o).1 (h.setting.1 o).2 ?_
  dsimp only
  split
  next hst => simp [hst.1]
  next => rfl

theorem uncut (h : Timed M D s) (ch : FaultId) (os : List OutputId) : Timed M D (s.uncut ch os) :=
  Kept.foldl (P := Timed M D) (fun o hs => uncutOutput hs ch o) os h

theorem cutOutput (h : Timed M D s) (ch : FaultId) (o : OutputId) : Timed M D (cutOutput ch s o) := by
  unfold Machine.cutOutput
  dsimp only
  split
  next => exact h.unsettle (h.setting.1 o).1 (h.setting.1 o).2 (by simp)
  next hst => exact h.putOutput o (h.setting.1 o).1 (h.setting.1 o).2 (by simp [hst])

/-! ### Slots -/

/-- A slot closed with no entry left that it calls for (R12, R16). -/
theorem closeSlot (h : Timed M D s) (hM : ∀ o, M (.settle o) = false) {i : SlotId} {x : Option Lease}
    (hx : ∀ k, slotCalls x k = false) (S : OutputSet) (w : List SlotId) : Timed M D (s.closeSlot i x S w) := by
  refine recomputeAll (s := { (s.unscheduleSlot i).putLease i x with waitQueue := w }) ⟨?_, h.setting⟩ hM S
  have hset : ∀ j, State.leaseAt { (s.unscheduleSlot i).putLease i x with waitQueue := w } j =
      if i = j then x else s.leaseAt j := fun j => s.leaseAt_putLease i j x
  have hmid := ((h.tracks.drop (.wait i) (fun _ => rfl) fun _ _ _ => rfl).drop (.lease i) (fun _ => rfl)
    fun _ _ _ => rfl).drop (.offer i) (fun _ => rfl) fun _ _ _ => rfl
  refine hmid.congr (fun k => ?_) fun k hk => ?_
  · rw [State.callsFor_of_set hset rfl rfl, hx]
    by_cases hk : k.ofSlot i = true
    · rcases Key.eq_of_ofSlot hk with rfl | rfl | rfl <;> simp [Key.ofSlot]
    · obtain ⟨h1, h2, h3⟩ := Key.ofSlot_eq_false.mp (by simpa using hk)
      simp [hk, h1, h2, h3]
  · rw [State.recorded_of_set hset, if_neg]
    intro hk'
    rcases Key.eq_of_ofSlot hk' with rfl | rfl | rfl <;> simp at hk

theorem endLease (h : Timed M D s) (hM : ∀ o, M (.settle o) = false) (i : SlotId) (why : EndReason) (d : Option FaultId) :
    Timed M D (s.endLease i why d) := by
  by_cases ha : ∃ l, s.leaseAt i = some l ∧ (l.phase.isWaiting = true ∨ l.phase.isLive = true)
  · obtain ⟨l, hl, ha⟩ := ha
    rw [endLease_eq hl ha]
    exact (h.closeSlot hM (fun k => by cases k <;> rfl) _ _).tellEnd _ _
  · rw [endLease_of_inactive fun l hl => by simpa using fun h => ha ⟨l, hl, h⟩]
    exact h

theorem freeSlot (h : Timed M D s) (hM : ∀ o, M (.settle o) = false) (i : SlotId) : Timed M D (s.freeSlot i) := by
  cases hl : s.leaseAt i with
  | none => rw [freeSlot_of_none hl]; exact h
  | some l => rw [freeSlot_eq hl]; exact h.closeSlot hM (fun k => by cases k <;> rfl) _ _

/-- A slot rewritten with a record that calls for the same entries at the same deadlines. -/
theorem putLease (h : Timed M D s) {i : SlotId} {x : Option Lease} (hc : ∀ k, slotCalls x k = slotCalls (s.leaseAt i) k)
    (hr : ∀ k, slotRecords x k = slotRecords (s.leaseAt i) k) : Timed M D (s.putLease i x) := by
  have hset := fun j => s.leaseAt_putLease i j x
  refine h.remask (t := s.putLease i x) rfl rfl h.setting (funext fun k => ?_) fun k => ?_
  · rw [State.recorded_of_set hset]
    split
    next hk => rw [hr, State.recorded_of_ofSlot hk]
    next => rfl
  · rw [State.callsFor_of_set hset rfl rfl]
    split
    next hk => rw [hc, State.callsFor_of_ofSlot hk]
    next => rfl

/-- A slot rewritten with a record that calls for all but the entry for `k`, which goes. -/
theorem dropOf (h : Timed M D s) {i : SlotId} {x : Option Lease} {k : Key} (hset : ∀ j, t.leaseAt j = if i = j then x else s.leaseAt j)
    (hc : t.clock = s.clock) (ho : t.outputs = s.outputs) (hf : t.faults = s.faults) (he : t.expiry = removeEntry k s.expiry)
    (hk : k.ofSlot i = true) (hxk : slotCalls x k = false)
    (hx : ∀ j, j.ofSlot i = true → j ≠ k → slotCalls x j = slotCalls (s.leaseAt i) j ∧
      (slotCalls x j = true → slotRecords x j = slotRecords (s.leaseAt i) j)) : Timed M D t where
  tracks := by
    rw [hc, he]
    refine h.tracks.drop k (fun j => ?_) fun j hj hcall => ?_
    · rw [State.callsFor_of_set hset ho hf]
      split
      next hji =>
        by_cases hjk : j = k
        · subst hjk; simp [hxk]
        · rw [(hx j hji hjk).1, ← State.callsFor_of_ofSlot hji]; simp [hjk]
      next hji =>
        have hjk : j ≠ k := by rintro rfl; exact hji hk
        simp [hjk]
    · rw [State.recorded_of_set hset]
      split
      next hji =>
        simp only [Bool.and_eq_true, State.callsFor_of_ofSlot hji, ← (hx j hji hj).1] at hcall
        rw [(hx j hji hj).2 hcall.1, State.recorded_of_ofSlot hji]
      next => rfl
  setting := by
    have hout : ∀ o, t.output o = s.output o := fun o => by rw [State.output, ho, State.output]
    have hfault : ∀ ch, t.fault ch = s.fault ch := fun ch => by rw [State.fault, hf, State.fault]
    simpa only [State.SettingLaw, hout, hfault] using h.setting

/-- A slot rewritten with a record that calls for the entry for `k` besides, which is inserted. -/
theorem addOf (h : Timed M D s) {i : SlotId} {x : Option Lease} {k : Key} {n : Nat}
    (hset : ∀ j, t.leaseAt j = if i = j then x else s.leaseAt j)
    (hc : t.clock = s.clock) (ho : t.outputs = s.outputs) (hf : t.faults = s.faults)
    (he : t.expiry = insertEntry s.clock ⟨s.clock + BitVec.ofNat 32 n, k⟩ s.expiry)
    (h1 : 1 ≤ n) (hn : n ≤ Config.maxTicks) (hk : k.ofSlot i = true) (hM : M k = false)
    (hold : slotCalls (s.leaseAt i) k = false) (hxk : slotCalls x k = true)
    (hrk : slotRecords x k = some (s.clock + BitVec.ofNat 32 n))
    (hx : ∀ j, j.ofSlot i = true → j ≠ k → slotCalls x j = slotCalls (s.leaseAt i) j ∧
      (slotCalls x j = true → slotRecords x j = slotRecords (s.leaseAt i) j)) : Timed M D t where
  tracks := by
    rw [hc, he]
    refine h.tracks.add (k := k) ?_ h1 hn (fun j => ?_) (fun j hj hcall => ?_) ?_
    · rw [State.callsFor_of_ofSlot hk, hold]; rfl
    · rw [State.callsFor_of_set hset ho hf]
      split
      next hji =>
        by_cases hjk : j = k
        · subst hjk; simp [hxk, hM]
        · rw [(hx j hji hjk).1, ← State.callsFor_of_ofSlot hji]; simp [hjk]
      next hji =>
        have hjk : j ≠ k := by rintro rfl; exact hji hk
        simp [hjk]
    · rw [State.recorded_of_set hset]
      split
      next hji =>
        simp only [Bool.and_eq_true, State.callsFor_of_ofSlot hji, ← (hx j hji hj).1] at hcall
        rw [(hx j hji hj).2 hcall.1, State.recorded_of_ofSlot hji]
      next => rfl
    · rw [State.recorded_of_set hset, if_pos hk, hrk]
      exact .inr rfl
  setting := by
    have hout : ∀ o, t.output o = s.output o := fun o => by rw [State.output, ho, State.output]
    have hfault : ∀ ch, t.fault ch = s.fault ch := fun ch => by rw [State.fault, hf, State.fault]
    simpa only [State.SettingLaw, hout, hfault] using h.setting

end Timed

end Sys2Proof.Machine
end

section
/-! SUPPORT. The law of the deadlines (R73 to R75): the operations against the expiry queue, the records' ranges (R3) and the
fault channels' law (R121, R122, R126), the deliveries and the changes of level one by one, and the tick, which finds nothing
due once the ending tick's events are finished. -/

namespace Sys2Proof.Machine

/-! ### Records in their ranges -/

theorem Lease.inRange_iff {l : Lease} :
    l.inRange = true ↔ l.outputs ≠ 0 ∧ (1 ≤ l.term ∧ l.term ≤ Config.maxTicks) ∧ ∀ k, l.count = some k →
      1 ≤ k.budget ∧ k.budget ≤ Config.maxBudget ∧ (l.phase.isLive = true → k.spent < k.budget) ∧
        (l.phase.isWaiting = true → k.spent = 0) := by
  have himp : ∀ {b : Bool} {p : Prop} [Decidable p], (!b || decide p) = true ↔ (b = true → p) := by
    intro b p _; cases b <;> simp
  unfold Lease.inRange
  cases l.count with
  | none => simp [and_assoc]
  | some k =>
    simp only [Bool.and_eq_true, bne_iff_ne, decide_eq_true_eq, CountBound.inRange, himp, Option.some.injEq, forall_eq']
    have hspent : ((!l.phase.isWaiting || k.spent == 0) = true) ↔ (l.phase.isWaiting = true → k.spent = 0) := by
      cases l.phase.isWaiting <;> simp
    rw [hspent]
    tauto

theorem State.RecordLaw.inRange {s : State} (h : s.RecordLaw) {i : SlotId} {l : Lease} (hl : s.leaseAt i = some l) :
    (s.slot i).generation ≠ 0 ∧ l.inRange = true := by
  have := h i
  simpa [State.slotInRange, hl] using this

/-- One slot rewritten with a record in its ranges, or freed. -/
theorem recordLaw_of_set {s t : State} {i : SlotId} {g : Byte} {x : Option Lease} (hs : s.RecordLaw)
    (ht : t.slots = s.slots.set i ⟨g, x⟩) (hx : ∀ l, x = some l → g ≠ 0 ∧ l.inRange = true) : t.RecordLaw := by
  intro j
  have hslot := State.slot_of_set ht j
  have hlease := State.leaseAt_of_set ht j
  by_cases hij : i = j
  · unfold State.slotInRange
    rw [hlease, hslot, if_pos hij, if_pos hij]
    cases hxl : x with
    | none => rfl
    | some l =>
      obtain ⟨hg, hl⟩ := hx l hxl
      simpa [hl] using hg
  · rw [if_neg hij] at hslot hlease
    have := hs j
    unfold State.slotInRange at this ⊢
    rw [hlease, hslot]
    exact this

theorem recordLaw_congr {s t : State} (h : t.slots = s.slots) (hs : s.RecordLaw) : t.RecordLaw := by
  intro j
  unfold State.slotInRange
  rw [State.leaseAt_congr h, State.slot_congr h]
  exact hs j

/-- A record in its ranges stays so with the same outputs, term and bound, live and waiting no more than before. -/
theorem Lease.inRange_of_phase {l m : Lease} (hl : l.inRange = true) (ho : m.outputs = l.outputs) (ht : m.term = l.term)
    (hc : m.count = l.count) (hlive : m.phase.isLive = true → l.phase.isLive = true)
    (hwait : m.phase.isWaiting = true → l.phase.isWaiting = true) : m.inRange = true := by
  obtain ⟨h1, h2, h3⟩ := Lease.inRange_iff.mp hl
  refine Lease.inRange_iff.mpr ⟨ho ▸ h1, ht ▸ h2, fun k hk => ?_⟩
  obtain ⟨h4, h5, h6, h7⟩ := h3 k (hc ▸ hk)
  exact ⟨h4, h5, fun h => h6 (hlive h), fun h => h7 (hwait h)⟩

theorem recordLaw_endLease {s : State} (hs : s.RecordLaw) (i : SlotId) (why : EndReason) (d : Option FaultId) :
    (s.endLease i why d).RecordLaw := by
  refine recordLaw_of_set hs (endLease_slots s i why d) fun m hm => ?_
  obtain ⟨l, hl, rfl⟩ := Option.map_eq_some_iff.mp hm
  obtain ⟨hg, hr⟩ := hs.inRange hl
  obtain ⟨hw, hv⟩ := l.afterEnd_inactive why s.clock d
  refine ⟨hg, Lease.inRange_of_phase hr ?_ ?_ ?_ (by simp [hv]) (by simp [hw])⟩ <;>
    (unfold Lease.afterEnd; split <;> rfl)

theorem recordLaw_resolveOffer {s : State} (hs : s.RecordLaw) (i : SlotId) (o : Outcome) : (s.resolveOffer i o).RecordLaw := by
  refine recordLaw_of_set hs (resolveOffer_slots s i o) fun m hm => ?_
  obtain ⟨l, hl, rfl⟩ := Option.map_eq_some_iff.mp hm
  obtain ⟨hg, hr⟩ := hs.inRange hl
  obtain ⟨-, ho, -, hlive, hwait, -⟩ := l.returned_keeps
  refine ⟨hg, Lease.inRange_of_phase hr ho ?_ ?_ (hlive ▸ id) (hwait ▸ id)⟩ <;> (unfold Lease.returned; split <;> rfl)

/-- A waiting request has spent nothing, so it is in its ranges once it is granted (R24, R95). -/
theorem recordLaw_grantWaiting {s : State} (hs : s.RecordLaw) {i : SlotId} {l : Lease} (hl : s.leaseAt i = some l)
    (hw : l.phase.isWaiting = true) : (s.grantWaiting i l).RecordLaw := by
  refine recordLaw_of_set hs (grantWaiting_slots s i l) fun m hm => ?_
  obtain rfl := Option.some.inj hm
  obtain ⟨hg, hr⟩ := hs.inRange hl
  obtain ⟨h1, h2, h3⟩ := Lease.inRange_iff.mp hr
  refine ⟨hg, Lease.inRange_iff.mpr ⟨h1, h2, fun k hk => ?_⟩⟩
  obtain ⟨h4, h5, -, h7⟩ := h3 k hk
  have := h7 hw
  exact ⟨h4, h5, fun _ => by omega, nofun⟩

theorem nextGeneration_ne_zero (g : Byte) : nextGeneration g ≠ 0 := by
  unfold nextGeneration
  split
  · decide
  · bv_omega

/-- The record of a REQUEST that passed the static checks is in its ranges (R49). -/
theorem StaticallyFit.inRange {s : State} {c : Client} {r : RequestParams} {k : Kind} {i : SlotId}
    (hfit : StaticallyFit s c r k i) (hb : r.budget ≤ Config.maxBudget) (p : Phase) : (r.lease c k p).inRange = true := by
  refine Lease.inRange_iff.mpr ⟨hfit.outputs, hfit.term, fun b hbound => ?_⟩
  have hch := hfit.channel
  simp only [RequestParams.lease, RequestParams.bound] at hbound
  unfold State.channelFit at hch
  split at hbound
  · simp at hbound
  next hff =>
    rw [if_neg hff] at hch
    split at hbound
    next ch hc =>
      obtain rfl := Option.some.inj hbound
      rw [hc] at hch
      simp only [Bool.and_eq_true, bne_iff_ne, ne_eq] at hch
      exact ⟨by have := hch.1; dsimp only; omega, hb, fun _ => by have := hch.1; dsimp only; omega, fun _ => rfl⟩
    next => simp at hbound

/-! ### The fault channels' law -/

/-- What the law of the fault channels says of one (R121, R122, R126). -/
def FaultChannel.Lawful (x : FaultChannel) : Prop :=
  (x.state = .latched ↔ x.tripCount = x.latchLimit) ∧ x.tripCount ≤ x.latchLimit ∧ 1 ≤ x.latchLimit ∧ x.latchLimit ≤ 15 ∧
    (x.state = .idle ∨ x.state = .recovering → x.filtered = false) ∧ (x.state = .tripped → x.filtered = true) ∧
    (x.state = .tripped ∨ x.state = .recovering → 1 ≤ x.tripCount) ∧ x.run < x.filterSamples ∧ x.filterSamples ≤ 16

theorem faultLaw_iff {s : State} : s.FaultLaw ↔ ∀ ch, (s.fault ch).Lawful := Iff.rfl

theorem faultLaw_congr {s t : State} (h : t.faults = s.faults) (hs : s.FaultLaw) : t.FaultLaw := by
  intro ch
  rw [State.fault, h]
  exact hs ch

theorem faultLaw_of_set {s t : State} {ch : FaultId} {x : FaultChannel} (h : t.faults = s.faults.set ch x)
    (hs : s.FaultLaw) (hx : x.Lawful) : t.FaultLaw := by
  have hfault : ∀ c, t.fault c = if ch = c then x else s.fault c := fun c => by
    simp [State.fault, h, Vector.getElem_set, Fin.val_inj]
  refine faultLaw_iff.mpr fun c => ?_
  rw [hfault]
  split
  · exact hx
  · exact hs c

/-! ### The operations against the queue -/

/-- The law of the deadlines, with what is due of the queue in the list `D`. -/
structure Clocked (D : List Entry) (s : State) : Prop where
  timed : Timed allThere D s
  record : s.RecordLaw
  fault : s.FaultLaw

namespace Clocked

variable {D : List Entry} {s t : State}

/-- An update of other blocks. -/
theorem of_eq (h : Clocked D s) (hc : t.clock = s.clock) (he : t.expiry = s.expiry) (hs : t.slots = s.slots)
    (ho : t.outputs = s.outputs) (hf : t.faults = s.faults) : Clocked D t :=
  ⟨h.timed.of_eq hc he hs ho hf, recordLaw_congr hs h.record, faultLaw_congr hf h.fault⟩

theorem notify (h : Clocked D s) (c : Client) (k : Notice) : Clocked D (s.notify c k) :=
  h.of_eq (notify_spares s c k).clock (notify_expiry s c k) (notify_slots s c k) (notify_outputs s c k)
    (notify_spares s c k).faults

theorem weaken (h : Clocked D s) : Clocked s.expiry s := ⟨h.timed.weaken, h.record, h.fault⟩

theorem freeSlot (h : Clocked D s) (i : SlotId) : Clocked D (s.freeSlot i) :=
  ⟨h.timed.freeSlot (fun _ => rfl) i, recordLaw_of_set h.record (freeSlot_slots s i) nofun,
    faultLaw_congr (freeSlot_spares s i).faults h.fault⟩

theorem endLease (h : Clocked D s) (i : SlotId) (why : EndReason) (d : Option FaultId) : Clocked D (s.endLease i why d) :=
  ⟨h.timed.endLease (fun _ => rfl) i why d, recordLaw_endLease h.record i why d,
    faultLaw_congr (endLease_spares s i why d).faults h.fault⟩

/-- The WAIT entry gives way to the LEASE entry, a term from now (R60). -/
theorem grantWaiting (h : Clocked D s) {i : SlotId} {l : Lease} (hl : s.leaseAt i = some l)
    (hw : l.phase.isWaiting = true) : Clocked D (s.grantWaiting i l) := by
  refine ⟨?_, recordLaw_grantWaiting h.record hl hw, faultLaw_congr (grantWaiting_spares s i l).faults h.fault⟩
  obtain ⟨h1, hn⟩ := (Lease.inRange_iff.mp (h.record.inRange hl).2).2.1
  have hoff : l.phase.offerDeadline = none := by cases hp : l.phase <;> simp [hp, Phase.isWaiting, Phase.offerDeadline] at hw ⊢
  have hlive := Phase.not_live_of_waiting hw
  -- the slot calls for nothing once the WAIT entry is gone
  have hdrop : Timed allThere D ((s.putLease i none).unschedule (.wait i)) := by
    refine h.timed.dropOf (i := i) (x := none) (k := .wait i) (s.leaseAt_putLease i · none) rfl rfl rfl rfl
      (by simp [Key.ofSlot]) rfl fun j hj hne => ?_
    rcases Key.eq_of_ofSlot hj with rfl | rfl | rfl
    · simp [slotCalls, hl, hlive]
    · simp [slotCalls, hl, hoff]
    · exact absurd rfl hne
  have hadd : Timed allThere D (s.grantedSlot i l) := by
    refine hdrop.addOf (i := i) (x := some (l.granted s.clock)) (k := .lease i) (n := l.term) (fun j => ?_) rfl rfl rfl rfl h1 hn
      (by simp [Key.ofSlot]) rfl ?_ rfl rfl fun j hj hne => ?_
    · have hg := State.leaseAt_of_set (s := s) (t := s.grantedSlot i l) (i := i)
        (x := ⟨(s.slot i).generation, some (l.granted s.clock)⟩) rfl j
      have hn' := s.leaseAt_putLease i j none
      rw [hg]
      split
      · rfl
      next hij => exact (hn'.trans (if_neg hij)).symm
    · have hn' : ((s.putLease i none).unschedule (.wait i)).leaseAt i = none := (s.leaseAt_putLease i i none).trans (if_pos rfl)
      rw [hn']; rfl
    · have hn' : ((s.putLease i none).unschedule (.wait i)).leaseAt i = none := (s.leaseAt_putLease i i none).trans (if_pos rfl)
      rw [hn']
      rcases Key.eq_of_ofSlot hj with rfl | rfl | rfl
      · exact absurd rfl hne
      · exact ⟨rfl, nofun⟩
      · exact ⟨rfl, nofun⟩
  rw [grantWaiting_eq]
  exact (hadd.recomputeAll (fun _ => rfl) _).notify _ _

theorem review (h : Clocked D s) : Clocked D s.review :=
  reviewFrom_keeps (P := Clocked D) (fun hl hw _ hs => hs.grantWaiting hl hw) _ _ h

theorem reviewIf (h : Clocked D s) (b : Bool) : Clocked D (s.reviewIf b) := by
  cases b
  · exact h
  · exact h.review

end Clocked

/-- The OFFER entry goes with the offer; it may be gone already. -/
theorem Timed.resolveOffer {M : Key → Bool} {D : List Entry} {s : State} (h : Timed M D s) (i : SlotId) (o : Outcome) :
    Timed M D (s.resolveOffer i o) := by
  cases ho : s.offeredAt i with
  | false => rw [resolveOffer_of_not_offered ho]; exact h
  | true =>
    obtain ⟨l, ga, d, r, od, hl, hp⟩ := State.offeredAt_iff.mp ho
    rw [resolveOffer_of_offered hl hp]
    refine h.dropOf (i := i) (x := some { l with phase := .live ga d }) (k := .offer i)
      (s.leaseAt_putLease i · (some { l with phase := .live ga d })) rfl rfl rfl rfl (by simp [Key.ofSlot]) rfl
      fun j hj hne => ?_
    rcases Key.eq_of_ofSlot hj with rfl | rfl | rfl
    · simp [slotCalls, slotRecords, hl, hp, Phase.isLive, Phase.deadline]
    · exact absurd rfl hne
    · simp [slotCalls, hl, hp, Phase.isWaiting]

theorem Clocked.resolveOffer {D : List Entry} {s : State} (h : Clocked D s) (i : SlotId) (o : Outcome) :
    Clocked D (s.resolveOffer i o) :=
  ⟨h.timed.resolveOffer i o, recordLaw_resolveOffer h.record i o, faultLaw_congr (resolveOffer_spares s i o).faults h.fault⟩

/-! ### Changes of level -/

namespace Timed

variable {M M' : Key → Bool} {D : List Entry} {s t : State}

theorem settingLaw_putFault (h : s.SettingLaw) {ch : FaultId} {x : FaultChannel}
    (hx : 2 ≤ x.filterSamples ∧ x.filterSamples ≤ 16 ∧ 1 ≤ x.recoveryDelay ∧ x.recoveryDelay ≤ Config.maxWait ∧
      1 ≤ x.latchLimit ∧ x.latchLimit ≤ 15 ∧ 1 ≤ x.quietPeriod ∧ x.quietPeriod ≤ Config.maxTicks) :
    (s.putFault ch x).SettingLaw := by
  refine ⟨h.1, fun c => ?_⟩
  rw [s.fault_putFault]
  split
  · exact hx
  · exact h.2 c

/-- A channel's record rewritten; what is missing changes with what it calls for. -/
theorem putFault (h : Timed M D s) {ch : FaultId} {x : FaultChannel}
    (hx : 2 ≤ x.filterSamples ∧ x.filterSamples ≤ 16 ∧ 1 ≤ x.recoveryDelay ∧ x.recoveryDelay ≤ Config.maxWait ∧
      1 ≤ x.latchLimit ∧ x.latchLimit ≤ 15 ∧ 1 ≤ x.quietPeriod ∧ x.quietPeriod ≤ Config.maxTicks)
    (hrecover : (x.state == .recovering && !M' (.recover ch)) = (s.callsFor (.recover ch) && !M (.recover ch)))
    (hquiet : (x.state == .idle && decide (0 < x.tripCount) && !M' (.quiet ch)) =
      (s.callsFor (.quiet ch) && !M (.quiet ch)))
    (hM : ∀ k, k ≠ .recover ch → k ≠ .quiet ch → M' k = M k) : Timed M' D (s.putFault ch x) :=
  h.remask (t := s.putFault ch x) rfl rfl (settingLaw_putFault h.setting hx) rfl fun k => by
    rw [s.callsFor_putFault]
    by_cases hr : k = .recover ch
    · rw [if_pos hr, hr]; exact hrecover
    · rw [if_neg hr]
      by_cases hq : k = .quiet ch
      · rw [if_pos hq, hq]; exact hquiet
      · rw [if_neg hq, hM k hr hq]

/-- The keys of channel `ch`. -/
def channelKeys (ch : FaultId) (k : Key) : Bool := k == .recover ch || k == .quiet ch

theorem unscheduleFault (h : Timed allThere D s) (ch : FaultId) : Timed (channelKeys ch) D (s.unscheduleFault ch) where
  tracks := by
    refine ((h.tracks.drop (.recover ch) (fun _ => rfl) fun _ _ _ => rfl).drop (.quiet ch) (fun _ => rfl)
      fun _ _ _ => rfl).congr (fun k => ?_) fun _ _ => rfl
    show (s.callsFor k && !channelKeys ch k) = _
    by_cases hr : k = .recover ch
    · simp [channelKeys, hr]
    · by_cases hq : k = .quiet ch
      · simp [channelKeys, hq]
      · simp [channelKeys, allThere, hr, hq]
  setting := h.setting

/-- The trip but for its notice and its review (R124): the channel's entries go at once and are called for no more at its
end. -/
theorem tripBase (h : Timed allThere D s) (ch : FaultId) {x : FaultChannel}
    (hx : 2 ≤ x.filterSamples ∧ x.filterSamples ≤ 16 ∧ 1 ≤ x.recoveryDelay ∧ x.recoveryDelay ≤ Config.maxWait ∧
      1 ≤ x.latchLimit ∧ x.latchLimit ≤ 15 ∧ 1 ≤ x.quietPeriod ∧ x.quietPeriod ≤ Config.maxTicks) :
    Timed allThere D (s.tripBase ch x) := by
  have hset : Timed (channelKeys ch) D ((s.putFault ch { x with tripCount := x.tripCount + 1 }).unscheduleFault ch) := by
    refine ⟨?_, settingLaw_putFault (x := { x with tripCount := x.tripCount + 1 }) h.setting hx⟩
    refine (h.unscheduleFault ch).tracks.congr (fun k => ?_) fun _ _ => rfl
    show ((s.putFault ch { x with tripCount := x.tripCount + 1 }).callsFor k && !channelKeys ch k) = _
    rw [s.callsFor_putFault]
    by_cases hr : k = .recover ch
    · simp [channelKeys, hr]
    · by_cases hq : k = .quiet ch
      · simp [channelKeys, hq]
      · rw [if_neg hr, if_neg hq]; rfl
  have hends := Kept.foldl (P := Timed (channelKeys ch) D) (fun i hs => Timed.endLease hs (fun _ => rfl) i .fault (some ch))
    ((List.finRange 32).filter
      (((s.putFault ch { x with tripCount := x.tripCount + 1 }).unscheduleFault ch).cutLease x.cutSet)) hset
  have hcuts := Kept.foldl (P := Timed (channelKeys ch) D) (fun o hs => hs.cutOutput ch o) (members x.cutSet) hends
  unfold State.tripBase
  refine hcuts.putFault hx ?_ ?_ fun k hr hq => ?_
  · dsimp only
    split <;> simp [channelKeys]
  · dsimp only
    split <;> simp [channelKeys]
  · simp [channelKeys, allThere, hr, hq]

end Timed

/-- The fields of a channel that its settings are. -/
theorem State.SettingLaw.channel {s : State} (h : s.SettingLaw) (ch : FaultId) :
    2 ≤ (s.fault ch).filterSamples ∧ (s.fault ch).filterSamples ≤ 16 ∧ 1 ≤ (s.fault ch).recoveryDelay ∧
      (s.fault ch).recoveryDelay ≤ Config.maxWait ∧ 1 ≤ (s.fault ch).latchLimit ∧ (s.fault ch).latchLimit ≤ 15 ∧
      1 ≤ (s.fault ch).quietPeriod ∧ (s.fault ch).quietPeriod ≤ Config.maxTicks := h.2 ch

theorem cutOutput_faults (ch : FaultId) (s : State) (o : OutputId) : (cutOutput ch s o).faults = s.faults := by
  unfold cutOutput; dsimp only; split <;> rfl

theorem uncut_faults (s : State) (ch : FaultId) (os : List OutputId) : (s.uncut ch os).faults = s.faults :=
  foldl_keeps (f := uncutOutput ch) (g := State.faults) (fun _ _ => rfl) os s

theorem uncut_slots (s : State) (ch : FaultId) (os : List OutputId) : (s.uncut ch os).slots = s.slots :=
  foldl_keeps (f := uncutOutput ch) (g := State.slots) (fun _ _ => rfl) os s

theorem tripBase_faults (s : State) (ch : FaultId) (x : FaultChannel) :
    (s.tripBase ch x).faults = s.faults.set ch
      { x with tripCount := x.tripCount + 1, state := if x.tripCount + 1 = x.latchLimit then .latched else .tripped } := by
  have hends : ∀ (L : List SlotId) (t : State), (L.foldl (fun u i => u.endLease i .fault (some ch)) t).faults = t.faults :=
    fun L t => (Spares.foldl (fun u i => endLease_spares u i .fault (some ch)) L t).faults
  have hcuts : ∀ (L : List OutputId) (t : State), (L.foldl (cutOutput ch) t).faults = t.faults := fun L t =>
    foldl_keeps (g := State.faults) (cutOutput_faults ch) L t
  unfold State.tripBase
  dsimp only
  rw [State.putFault, hcuts, hends]
  exact Vector.set_set ..

theorem tripBase_recordLaw {s : State} (hs : s.RecordLaw) (ch : FaultId) (x : FaultChannel) : (s.tripBase ch x).RecordLaw := by
  have hcut : ∀ (L : List OutputId) (t : State), (L.foldl (cutOutput ch) t).slots = t.slots := fun L t =>
    foldl_keeps (g := State.slots) (cutOutput_slots ch) L t
  refine recordLaw_congr (hcut _ _) (Kept.foldl (P := State.RecordLaw) (fun i ht => recordLaw_endLease ht i .fault (some ch)) _ ?_)
  exact recordLaw_congr rfl hs

namespace Clocked

variable {D : List Entry} {s : State}

/-- The change of a filtered level, whichever it is (R122, R124, R127, R131). -/
theorem levelChange (h : Clocked D s) (ch : FaultId) : Clocked D (s.levelChange ch) := by
  have hset := h.timed.setting.channel ch
  obtain ⟨hlatch, hle, h1, h15, hidle, htrip, hcount, hrun, h16⟩ := h.fault ch
  rcases levelChange_cases s ch with ⟨hst, hf, heq⟩ | ⟨hst, hf, heq⟩ | ⟨hnt, hnc, heq⟩
  · obtain ⟨b, hb⟩ := trip_eq s ch { s.fault ch with filtered := !(s.fault ch).filtered, run := 0, changeDue := false }
    rw [heq, hb]
    refine Clocked.reviewIf (Clocked.notify ⟨Timed.tripBase h.timed ch (x := { s.fault ch with
        filtered := !(s.fault ch).filtered, run := 0, changeDue := false }) hset, tripBase_recordLaw h.record ch _,
      faultLaw_of_set (tripBase_faults s ch _) h.fault ?_⟩ _ _) b
    have hne : (s.fault ch).tripCount ≠ (s.fault ch).latchLimit := fun hc => by
      rcases hst with hst | hst <;> simp [hlatch.mpr hc] at hst
    unfold FaultChannel.Lawful
    dsimp only
    split
    next hc => simp [hc, h1, h15, h16, hf]; omega
    next hc => simp [hc, h1, h15, h16, hf]; omega
  · rw [heq]
    refine ⟨⟨?_, ?_⟩, recordLaw_congr rfl h.record, faultLaw_of_set rfl h.fault ?_⟩
    · refine h.timed.tracks.add (k := .recover ch) ?_ hset.2.2.1 (hset.2.2.2.1.trans (by decide)) (fun k => ?_)
        (fun _ _ _ => rfl) (.inl rfl)
      · simp [State.callsFor, hst]
      · show ((s.putFault ch _).callsFor k && !allThere k) = _
        rw [s.callsFor_putFault]
        by_cases hr : k = .recover ch
        · simp [hr, allThere]
        · by_cases hq : k = .quiet ch
          · subst hq
            simp only [State.callsFor, hst]
            rfl
          · simp [hr, hq]
    · exact Timed.settingLaw_putFault (ch := ch)
        (x := { s.fault ch with filtered := !(s.fault ch).filtered, run := 0, changeDue := false, state := .recovering })
        h.timed.setting hset
    · have := hcount (.inl hst)
      have hne : (s.fault ch).tripCount ≠ (s.fault ch).latchLimit := fun hc => by simp [hlatch.mpr hc] at hst
      unfold FaultChannel.Lawful
      simp [hf, hle, h1, h15, h16, this, hne]
      omega
  · have hlatched : (s.fault ch).state = .latched := by
      cases hst : (s.fault ch).state with
      | latched => rfl
      | tripped => exact absurd ⟨hst, htrip hst⟩ hnc
      | idle => exact absurd ⟨.inl hst, hidle (.inl hst)⟩ hnt
      | recovering => exact absurd ⟨.inr hst, hidle (.inr hst)⟩ hnt
    rw [heq]
    refine ⟨h.timed.putFault hset ?_ ?_ fun _ _ _ => rfl, recordLaw_congr rfl h.record, faultLaw_of_set rfl h.fault ?_⟩
    · rfl
    · rfl
    · unfold FaultChannel.Lawful
      simp [hlatched, hlatch.mp hlatched, h1, h15, h16]
      omega

/-! ### Deliveries -/

/-- A channel's recovery (R129): its RECOVER entry is out of the queue already, and its QUIET entry comes in. -/
theorem recover {k : FaultId} (ht : Timed (· == .recover k) D s) (hr : s.RecordLaw) (hf : s.FaultLaw)
    (hst : (s.fault k).state = .recovering) : Clocked D (s.recover k) := by
  have hset := ht.setting.channel k
  obtain ⟨hlatch, hle, h1, h15, hidle, -, hcount, hrun, h16⟩ := hf k
  have hpos := hcount (.inr hst)
  have hput : Timed (· == .quiet k) D (s.putFault k { s.fault k with state := .idle }) := by
    refine ht.putFault hset ?_ ?_ fun j hr hq => ?_
    · simp
    · simp [State.callsFor, hst]
    · simp [hr, hq]
  have huncut := hput.uncut k (members (s.fault k).cutSet)
  have hadd : Timed allThere D (((s.putFault k { s.fault k with state := .idle }).uncut k (members (s.fault k).cutSet)).schedule
      (.quiet k) (s.fault k).quietPeriod) := by
    refine ⟨huncut.tracks.add (k := .quiet k) (by simp) hset.2.2.2.2.2.2.1 hset.2.2.2.2.2.2.2 (fun j => ?_)
      (fun _ _ _ => rfl) (.inl rfl), huncut.setting⟩
    show (State.callsFor ((s.putFault k { s.fault k with state := .idle }).uncut k (members (s.fault k).cutSet)) j && _) = _
    by_cases hj : j = .quiet k
    · subst hj
      have hfault : ((s.putFault k { s.fault k with state := .idle }).uncut k (members (s.fault k).cutSet)).fault k =
          { s.fault k with state := .idle } := by
        rw [State.fault, uncut_faults]
        exact (s.fault_putFault k k _).trans (if_pos rfl)
      have hpos' : 0 < (s.fault k).tripCount := hpos
      simp [State.callsFor, hfault, hpos', allThere]
    · simp [hj, allThere]
  refine Clocked.reviewIf (Clocked.notify ⟨hadd, recordLaw_congr (uncut_slots _ k _) hr,
    faultLaw_of_set (uncut_faults _ k _) hf ?_⟩ 0 .fault) _
  have hne : (s.fault k).tripCount ≠ (s.fault k).latchLimit := fun hc => by simp [hlatch.mpr hc] at hst
  unfold FaultChannel.Lawful
  simp [hne, hle, h1, h15, h16, hrun, hidle (.inr hst)]

/-- The owner's rule of an entry that was taken out of the queue leaves nothing missing (R80). -/
theorem deliver {k : Key} (ht : Timed (· == k) D s) (hr : s.RecordLaw) (hf : s.FaultLaw) : Clocked D (s.deliver k) := by
  have hquiet : s.callsFor k = false → Clocked D s := fun hk =>
    ⟨ht.unmask fun j hj => by rw [eq_of_beq hj]; exact hk, hr, hf⟩
  have hended : ∀ (i : SlotId) (why : EndReason), k = .lease i ∨ k = .wait i →
      Clocked D (s.endLease i why none).review := fun i why hk => by
    have hof : k.ofSlot i = true := by rcases hk with rfl | rfl <;> simp [Key.ofSlot]
    refine Clocked.review ⟨(ht.endLease (fun o => ?_) i why none).unmask fun j hj => ?_, recordLaw_endLease hr i why none,
      faultLaw_congr (endLease_spares s i why none).faults hf⟩
    · rcases hk with rfl | rfl <;> simp
    · obtain rfl := eq_of_beq hj
      rw [State.callsFor_of_ofSlot hof, State.leaseAt_endLease, if_pos rfl]
      rcases hk with rfl | rfl <;> cases s.leaseAt i <;> simp [slotCalls, Lease.afterEnd_inactive]
  cases k with
  | lease i =>
    show Clocked D (s.leaseDue i)
    unfold State.leaseDue
    split
    next l hl =>
      split
      next => exact hended i .expired (.inl rfl)
      next hlive => exact hquiet (by simp [State.callsFor, State.liveAt, hl, hlive])
    next hl => exact hquiet (by simp [State.callsFor, State.liveAt, hl])
  | wait i =>
    show Clocked D (s.waitDue i)
    unfold State.waitDue
    split
    next l hl =>
      split
      next => exact hended i .waitExpired (.inr rfl)
      next hw => exact hquiet (by simp [State.callsFor, State.waitingAt, hl, hw])
    next hl => exact hquiet (by simp [State.callsFor, State.waitingAt, hl])
  | offer i =>
    have hback : ∀ {l : Lease}, s.leaseAt i = some l →
        Clocked D ((s.resolveOffer i .timedOut).notify l.holder .offerOut) := fun {l} hl => by
      refine Clocked.notify ⟨(ht.resolveOffer i .timedOut).unmask fun j hj => ?_, recordLaw_resolveOffer hr i .timedOut,
        faultLaw_congr (resolveOffer_spares s i .timedOut).faults hf⟩ _ _
      obtain rfl := eq_of_beq hj
      rw [State.callsFor_of_ofSlot (i := i) (by simp [Key.ofSlot]), State.leaseAt_resolveOffer, if_pos rfl, hl]
      cases hp : l.phase <;> simp [slotCalls, Lease.returned, hp, Phase.offerDeadline]
    show Clocked D (s.offerDue i)
    unfold State.offerDue
    split
    next l hl =>
      split
      next => exact hback hl
      all_goals
        next hp => exact hquiet (by simp [State.callsFor, State.offeredAt, hl, hp, Phase.offerDeadline])
    next hl => exact hquiet (by simp [State.callsFor, State.offeredAt, hl])
  | settle o =>
    show Clocked D (s.settleDue o)
    unfold State.settleDue
    split
    next hst =>
      refine Clocked.review ⟨?_, recordLaw_congr rfl hr, faultLaw_congr rfl hf⟩
      refine ht.remask (t := s.putOutput o { s.output o with state := .off }) rfl rfl
        (Timed.settingLaw_putOutput ht.setting o (ht.setting.1 o).1 (ht.setting.1 o).2) rfl fun j => ?_
      rw [s.callsFor_putOutput]
      by_cases hj : j = .settle o
      · simp [hj]
      · simp [hj, allThere]
    next hst => exact hquiet (by simp [State.callsFor, hst])
  | recover c =>
    show Clocked D (s.recoverDue c)
    unfold State.recoverDue
    split
    next hst => exact recover ht hr hf hst
    next hst => exact hquiet (by simp [State.callsFor, hst])
  | quiet c =>
    show Clocked D (s.quietDue c)
    unfold State.quietDue
    split
    next hst =>
      obtain ⟨hlatch, hle, h1, h15, hidle, -, -, hrun, h16⟩ := hf c
      refine ⟨ht.putFault (ht.setting.channel c) ?_ ?_ fun j hr hq => ?_, recordLaw_congr rfl hr, faultLaw_of_set rfl hf ?_⟩
      · simp only [State.callsFor, hst]
        rfl
      · simp
      · simp [hq, allThere]
      · unfold FaultChannel.Lawful
        simp [hst, h1, h15, h16, hrun, hidle (.inl hst)]
        omega
    next hst => exact hquiet (by simp [State.callsFor, hst])

/-- The delivery of the front entry (R79); what is due besides stays due. -/
theorem deliverFront (h : Clocked D s) {e : Entry} {q : List Entry} (he : s.expiry = e :: q) :
    Clocked (D.erase e) (s.deliverFront e.key) := by
  unfold State.deliverFront
  rw [he, List.tail_cons]
  have hr : State.RecordLaw { s with expiry := q } := recordLaw_congr (s := s) rfl h.record
  have hf : State.FaultLaw { s with expiry := q } := faultLaw_congr (s := s) rfl h.fault
  refine deliver ⟨?_, h.timed.setting⟩ hr hf
  refine Tracks.pop (he ▸ h.timed.tracks) fun k => ?_
  show (s.callsFor k && _) = _
  by_cases hk : k = e.key <;> simp [hk, allThere]

/-! ### The tick -/

/-- In order, a queue whose front is not due has nothing due (R79). -/
theorem none_due (h : Clocked D s) {e : Entry} {q : List Entry} (he : s.expiry = e :: q) (hd : e.deadline ≠ s.clock) :
    ∀ x ∈ s.expiry, x.deadline ≠ s.clock := by
  intro x hx hxd
  have hord := h.timed.tracks.ordered
  rw [he] at hord hx
  rcases List.mem_cons.mp hx with rfl | hx
  · exact hd hxd
  · have hle := List.rel_of_pairwise_cons hord hx
    rw [remaining_eq_zero.mpr hxd] at hle
    exact hd (remaining_eq_zero.mp (Nat.le_zero.mp hle))

theorem empty_of_none_due (h : Clocked D s) (hd : ∀ x ∈ s.expiry, x.deadline ≠ s.clock) : Clocked [] s :=
  ⟨⟨h.timed.tracks.weaken fun e he hdue => absurd hdue (hd e he), h.timed.setting⟩, h.record, h.fault⟩

theorem length_erase {e : Entry} {q : List Entry} (h : Clocked D s) (he : s.expiry = e :: q) (hd : e.deadline = s.clock) :
    (D.erase e).length + 1 = D.length := by
  have hmem : e ∈ D := h.timed.tracks.fresh e (he ▸ List.mem_cons_self) hd
  have := List.length_erase_of_mem hmem
  have := List.length_pos_of_mem hmem
  omega

/-- As many deliveries as there can be entries due leave nothing due (R79). -/
theorem deliverDue {n : Nat} (h : Clocked D s) (hn : D.length ≤ n) : Clocked [] (deliverDue n s) := by
  induction n generalizing D s with
  | zero =>
    obtain rfl := List.length_eq_zero_iff.mp (Nat.le_zero.mp hn)
    exact h
  | succ n ih =>
    unfold Machine.deliverDue
    split
    next he => exact h.empty_of_none_due (by simp [he])
    next e q he =>
      split
      next hd =>
        have := h.length_erase he hd
        exact ih (h.deliverFront he) (by omega)
      next hd => exact h.empty_of_none_due (h.none_due he hd)

/-- More deliveries than there can be entries due make no difference. -/
theorem deliverDue_eq {m n : Nat} {D' : List Entry} (h : Clocked D s) (h' : Clocked D' s) (hm : D.length ≤ m)
    (hn : D'.length ≤ n) : Machine.deliverDue m s = Machine.deliverDue n s := by
  have hnothing : ∀ {k : Nat} {t : State}, (∀ x ∈ t.expiry, x.deadline ≠ t.clock) → Machine.deliverDue k t = t := by
    intro k t ht
    cases k with
    | zero => rfl
    | succ k =>
      unfold Machine.deliverDue
      split
      next => rfl
      next e q he => rw [if_neg (ht e (he ▸ List.mem_cons_self))]
  induction m generalizing n s D D' with
  | zero =>
    obtain rfl := List.length_eq_zero_iff.mp (Nat.le_zero.mp hm)
    exact (hnothing fun x hx hxd => by simpa using h.timed.tracks.fresh x hx hxd).symm
  | succ m ih =>
    cases n with
    | zero =>
      obtain rfl := List.length_eq_zero_iff.mp (Nat.le_zero.mp hn)
      exact hnothing fun x hx hxd => by simpa using h'.timed.tracks.fresh x hx hxd
    | succ n =>
      unfold Machine.deliverDue
      split
      next => rfl
      next e q he =>
        split
        next hd =>
          have := h.length_erase he hd
          have := h'.length_erase he hd
          exact ih (h.deliverFront he) (h'.deliverFront he) (by omega) (by omega)
        next => rfl

theorem takeChanges (h : Clocked D s) : Clocked D s.takeChanges := by
  refine Kept.foldl (P := Clocked D) (fun {t} ch ht => ?_) _ h
  split
  · exact ht.levelChange ch
  · exact ht

/-- Once the events of the tick are finished nothing is due any more. -/
theorem finishTick (h : Clocked D s) : Clocked [] s.finishTick := (h.weaken.deliverDue le_rfl).takeChanges

theorem sampled_lawful {x : FaultChannel} (h : x.Lawful) (level : Bool) : (x.sampled level).Lawful := by
  unfold FaultChannel.sampled
  have ⟨h1, h2, h3, h4, h5, h6, h7, h8, h9⟩ := h
  split
  · split
    · exact ⟨h1, h2, h3, h4, h5, h6, h7, by dsimp only; omega, h9⟩
    · split
      next hrun => exact ⟨h1, h2, h3, h4, h5, h6, h7, hrun, h9⟩
      next => exact h
  · exact h

/-- A sample leaves the settings, the state and the trip count of its channel (R122). -/
theorem sampled_keeps (x : FaultChannel) (level : Bool) :
    ∃ r c, x.sampled level = { x with run := r, changeDue := c } := by
  unfold FaultChannel.sampled
  split
  · split
    · exact ⟨0, x.changeDue, rfl⟩
    · split
      · exact ⟨x.run + 1, x.changeDue, rfl⟩
      · exact ⟨x.run, true, rfl⟩
  · exact ⟨x.run, x.changeDue, rfl⟩

/-- With nothing due, the clock's rise and the samples leave the queue true to the state (R72, R122). -/
theorem tick (h : Clocked [] s) (lines : Vector Bool 4) : Clocked s.expiry (s.tick lines) := by
  have hfault : ∀ ch, ∃ r c, (s.tick lines).fault ch = { s.fault ch with run := r, changeDue := c } := fun ch => by
    obtain ⟨r, c, hrc⟩ := sampled_keeps (s.fault ch) lines[ch]
    exact ⟨r, c, hrc ▸ by simp [State.tick, State.sampleFaults, State.fault]⟩
  refine ⟨⟨?_, h.timed.setting.1, fun ch => ?_⟩, recordLaw_congr rfl h.record, faultLaw_iff.mpr fun ch => ?_⟩
  · refine (h.timed.tracks.tick fun e he hd => by simpa using h.timed.tracks.fresh e he hd).congr (fun k => ?_) fun k _ =>
      congrFun (State.recorded_congr (s := s) rfl) k
    have hsame : ∀ ch, ((s.tick lines).fault ch).state = (s.fault ch).state ∧
        ((s.tick lines).fault ch).tripCount = (s.fault ch).tripCount := fun ch => by
      obtain ⟨r, c, hrc⟩ := hfault ch
      rw [hrc]
      exact ⟨rfl, rfl⟩
    rw [State.callsFor_congr (s := s) (t := s.tick lines) rfl (fun o => Iff.rfl) hsame]
  · obtain ⟨r, c, hrc⟩ := hfault ch
    rw [hrc]
    exact h.timed.setting.2 ch
  · have hs : (s.tick lines).fault ch = (s.fault ch).sampled lines[ch] := by
      simp [State.tick, State.sampleFaults, State.fault]
    rw [hs]
    exact sampled_lawful (h.fault ch) _

end Clocked

end Sys2Proof.Machine
end

section
/-! SUPPORT. The law of the deadlines kept by every step, and what an advance of the clock does by it: the order in which due
entries are delivered, and that nothing due is left (R72, R73, R79, R122). -/

namespace Sys2Proof.Machine

/-! ### Every operation -/

/-- The law of the deadlines, whatever is due. -/
def OnTime (s : State) : Prop := ∃ D, Clocked D s

theorem deadlineLaw_iff_clocked {s : State} : s.DeadlineLaw ↔ Clocked s.expiry s := by
  constructor
  · rintro ⟨⟨hnd, hcalls, hrec, hord, hnear⟩, hfault, hrecord, hset⟩
    refine ⟨⟨⟨hnd, fun k => ?_, hrec, hord, hnear, fun _ he _ => he⟩, hset⟩, hrecord, hfault⟩
    rw [hcalls k (mem_allKeys k)]
    simp [allThere]
  · intro h
    have ht := h.timed.tracks
    refine ⟨⟨ht.nodup, fun k _ => ?_, ht.recorded, ht.ordered, ht.near⟩, h.fault, h.record, h.timed.setting⟩
    rw [ht.called]
    simp [allThere]

theorem deadlineLaw_iff_onTime {s : State} : s.DeadlineLaw ↔ OnTime s :=
  deadlineLaw_iff_clocked.trans ⟨fun h => ⟨_, h⟩, fun ⟨_, h⟩ => h.weaken⟩

theorem State.minMaxTerm_le (s : State) (S : OutputSet) : s.minMaxTerm S ≤ Config.maxTicks := by
  have hle : ∀ (L : List OutputId) (n : Nat), L.foldl (fun acc o => min acc (s.output o).maxTerm) n ≤ n := by
    intro L
    induction L with
    | nil => exact fun _ => le_rfl
    | cons o L ih => exact fun n => (ih _).trans (Nat.min_le_left _ _)
  exact hle _ _

/-- Two records that call for the same entries. -/
theorem slotCalls_congr {l m : Lease} (hlive : m.phase.isLive = l.phase.isLive)
    (hoff : m.phase.offerDeadline = l.phase.offerDeadline) (hwait : m.phase.isWaiting = l.phase.isWaiting) (k : Key) :
    slotCalls (some m) k = slotCalls (some l) k := by
  cases k <;> simp [slotCalls, hlive, hoff, hwait]

theorem slotRecords_congr {l m : Lease} (hp : m.phase = l.phase) (k : Key) :
    slotRecords (some m) k = slotRecords (some l) k := by
  cases k <;> simp [slotRecords, hp]

namespace Clocked

variable {D : List Entry} {s : State}

/-- A record of slot `i` rewritten in its ranges, in its phase. -/
theorem relabel (h : Clocked D s) {i : SlotId} {l m : Lease} (hl : s.leaseAt i = some l) (hp : m.phase = l.phase)
    (hm : m.inRange = true) : Clocked D (s.putLease i (some m)) := by
  refine ⟨h.timed.putLease (fun k => ?_) fun k => ?_, recordLaw_of_set h.record rfl fun x hx => ?_, faultLaw_congr rfl h.fault⟩
  · rw [hl]; exact slotCalls_congr (by rw [hp]) (by rw [hp]) (by rw [hp]) k
  · rw [hl]; exact slotRecords_congr hp k
  · obtain rfl := Option.some.inj hx
    exact ⟨(h.record.inRange hl).1, hm⟩

theorem ackEnd (h : Clocked D s) {i : SlotId} {l : Lease} (hl : s.leaseAt i = some l) (hw : l.phase.isWaiting = false)
    (hlive : l.phase.isLive = false) : Clocked D (s.putLease i none) := by
  refine ⟨h.timed.putLease (fun k => ?_) fun k => ?_, recordLaw_of_set h.record rfl nofun, faultLaw_congr rfl h.fault⟩ <;>
    (rw [hl]; cases k <;> cases hp : l.phase <;>
      simp_all [slotCalls, slotRecords, Phase.isWaiting, Phase.isLive, Phase.offerDeadline, Phase.deadline, Phase.waitDeadline])

theorem grantNew (h : Clocked D s) {c : Client} {r : RequestParams} {k : Kind} {i : SlotId} (hfit : StaticallyFit s c r k i)
    (hb : r.budget ≤ Config.maxBudget) : Clocked D (s.grantNew c r k i).1 := by
  have hset : ∀ j, (s.takenLive c r k i).leaseAt j =
      if i = j then some (r.lease c k (.live s.clock (s.after r.term))) else s.leaseAt j :=
    State.leaseAt_of_set (x := ⟨nextGeneration (s.slot i).generation, _⟩) rfl
  have hadd : Timed allThere D (s.takenLive c r k i) := by
    refine h.timed.addOf hset (k := .lease i) (n := r.term) rfl rfl rfl rfl hfit.term.1 hfit.term.2 (by simp [Key.ofSlot]) rfl
      (by rw [hfit.free]; rfl) rfl rfl fun j hj hne => ?_
    rw [hfit.free]
    rcases Key.eq_of_ofSlot hj with rfl | rfl | rfl
    · exact absurd rfl hne
    · exact ⟨rfl, nofun⟩
    · exact ⟨rfl, nofun⟩
  rw [grantNew_fst]
  refine ⟨hadd.recomputeAll (fun _ => rfl) _, ?_, faultLaw_congr (recomputeAll_spares (s.takenLive c r k i) _).faults h.fault⟩
  refine recordLaw_congr (recomputeAll_slots (s.takenLive c r k i) _) ?_
  refine recordLaw_of_set (s := s) (i := i) h.record rfl fun l hl => ?_
  obtain rfl := Option.some.inj hl
  exact ⟨nextGeneration_ne_zero _, hfit.inRange hb _⟩

theorem queueNew (h : Clocked D s) {c : Client} {r : RequestParams} {k : Kind} {i : SlotId} (hfit : StaticallyFit s c r k i)
    (hb : r.budget ≤ Config.maxBudget) (hw : r.wait ≠ 0) : Clocked D (s.queueNew c r k i).1 := by
  refine ⟨?_, ?_, faultLaw_congr rfl h.fault⟩
  · refine h.timed.addOf (leaseAt_queueNew s c r k i) (k := .wait i) (n := r.wait) rfl rfl rfl rfl (by omega)
      (hfit.wait.trans (by decide)) (by simp [Key.ofSlot]) rfl (by rw [hfit.free]; rfl) rfl rfl fun j hj hne => ?_
    rw [hfit.free]
    rcases Key.eq_of_ofSlot hj with rfl | rfl | rfl
    · exact ⟨rfl, nofun⟩
    · exact ⟨rfl, nofun⟩
    · exact absurd rfl hne
  · refine recordLaw_of_set (s := s) (i := i) h.record rfl fun l hl => ?_
    obtain rfl := Option.some.inj hl
    exact ⟨nextGeneration_ne_zero _, hfit.inRange hb _⟩

/-- RENEW moves the LEASE entry (R87). -/
theorem renew (h : Clocked D s) {i : SlotId} {l : Lease} {n : Nat} (hl : s.leaseAt i = some l) (hlive : l.phase.isLive = true)
    (h1 : 1 ≤ n) (hn : n ≤ s.minMaxTerm l.outputs) : Clocked D (s.renewed i l n) := by
  have hmax : n ≤ Config.maxTicks := hn.trans (s.minMaxTerm_le _)
  have hoff : ∀ d, (l.phase.withDeadline d).offerDeadline = l.phase.offerDeadline := fun d => by
    cases l.phase <;> rfl
  have hwait : ∀ d, (l.phase.withDeadline d).isWaiting = l.phase.isWaiting := fun d => by cases l.phase <;> rfl
  have hlive' : ∀ d, (l.phase.withDeadline d).isLive = true := fun d => by
    cases hp : l.phase <;> simp_all [Phase.isLive, Phase.withDeadline]
  have hdead : ∀ d, (l.phase.withDeadline d).deadline = some d := fun d => by
    cases hp : l.phase <;> simp_all [Phase.isLive, Phase.withDeadline, Phase.deadline]
  refine ⟨?_, ?_, faultLaw_congr rfl h.fault⟩
  · have hdrop : Tracks s.clock D (fun k => s.callsFor k && decide (k ≠ .lease i)) s.recorded
        (removeEntry (.lease i) s.expiry) :=
      h.timed.tracks.drop (.lease i) (fun k => by simp [allThere]) fun _ _ _ => rfl
    have hset : ∀ j, (s.renewed i l n).leaseAt j =
        if i = j then some { l with term := n, phase := l.phase.withDeadline (s.after n) } else s.leaseAt j :=
      State.leaseAt_of_set (x := ⟨(s.slot i).generation, _⟩) rfl
    refine ⟨hdrop.add (k := .lease i) (n := n) (by simp) h1 hmax (fun j => ?_) (fun j hj hcall => ?_) ?_, h.timed.setting⟩
    · rw [State.callsFor_of_set hset rfl rfl]
      split
      next hji =>
        rcases Key.eq_of_ofSlot hji with rfl | rfl | rfl
        · simp [slotCalls, hlive', allThere]
        · simp [State.callsFor_of_ofSlot hji, slotCalls, hl, hoff, allThere]
        · simp [State.callsFor_of_ofSlot hji, slotCalls, hl, hwait, allThere]
      next hji =>
        have hne : j ≠ .lease i := by rintro rfl; simp [Key.ofSlot] at hji
        simp [hne, allThere]
    · rw [State.recorded_of_set hset]
      split
      next hji =>
        rcases Key.eq_of_ofSlot hji with rfl | rfl | rfl
        · exact absurd rfl hj
        · simp [State.recorded_of_ofSlot hji, slotRecords, hl, hoff]
        · simp [State.callsFor_of_ofSlot hji, slotCalls, hl] at hcall
          simp [Phase.not_live_of_waiting hcall] at hlive
      next => rfl
    · rw [State.recorded_of_set hset, if_pos (by simp [Key.ofSlot])]
      simp [slotRecords, hdead, State.after]
  · refine recordLaw_of_set (s := s) (i := i) h.record rfl fun x hx => ?_
    obtain rfl := Option.some.inj hx
    obtain ⟨hg, hr⟩ := h.record.inRange hl
    obtain ⟨hS, -, hk⟩ := Lease.inRange_iff.mp hr
    refine ⟨hg, Lease.inRange_iff.mpr ⟨hS, ⟨h1, hmax⟩, fun k hkk => ?_⟩⟩
    obtain ⟨h4, h5, h6, h7⟩ := hk k hkk
    exact ⟨h4, h5, fun _ => h6 hlive, fun hw => h7 (by rw [← hwait (s.after n)]; exact hw)⟩

theorem extend (h : Clocked D s) {i : SlotId} {l : Lease} {k : CountBound} {n : Nat} (hl : s.leaseAt i = some l)
    (hlive : l.phase.isLive = true) (hk : l.count = some k) (hn : k.budget + n ≤ Config.maxBudget) :
    Clocked D (s.putLease i (some { l with count := some { k with budget := k.budget + n } })) := by
  refine h.relabel hl rfl ?_
  obtain ⟨hS, ht, hc⟩ := Lease.inRange_iff.mp (h.record.inRange hl).2
  obtain ⟨h4, h5, h6, h7⟩ := hc k hk
  refine Lease.inRange_iff.mpr ⟨hS, ht, fun k' hk' => ?_⟩
  obtain rfl := Option.some.inj hk'
  have := h6 hlive
  exact ⟨by dsimp only; omega, hn, fun _ => by dsimp only; omega, h7⟩

/-- An edge spends at most what is left; a lease whose budget is spent by it has ended (R95). -/
theorem chargeSlot (h : Clocked D s) (ch : CountId) (i : SlotId) : Clocked D (chargeSlot ch s i) := by
  unfold Machine.chargeSlot
  split
  · exact h
  next l k hb =>
    obtain ⟨hl, hk, hlive⟩ : s.leaseAt i = some l ∧ l.count = some k ∧ l.phase.isLive = true := by
      unfold State.boundTo at hb
      split at hb
      · simp at hb
      next m hm =>
        split at hb
        · simp at hb
        next k' hk' =>
          split at hb
          next hc =>
            obtain ⟨rfl, rfl⟩ := Prod.mk.inj (Option.some.inj hb)
            exact ⟨hm, hk', (Bool.and_eq_true _ _ ▸ hc).1⟩
          next => simp at hb
    obtain ⟨hg, hr⟩ := h.record.inRange hl
    obtain ⟨hS, ht, hc⟩ := Lease.inRange_iff.mp hr
    obtain ⟨h4, h5, h6, h7⟩ := hc k hk
    have hlt := h6 hlive
    dsimp only
    split
    next hspent =>
      have htimed : Timed allThere D (s.putLease i (some { l with count := some { k with spent := k.spent + 1 } })) :=
        h.timed.putLease (fun j => by rw [hl]; exact slotCalls_congr rfl rfl rfl j) fun j => by
          rw [hl]; exact slotRecords_congr rfl j
      refine ⟨htimed.endLease (fun _ => rfl) i _ _, ?_, faultLaw_congr (endLease_spares _ i _ _).faults h.fault⟩
      have hput := State.leaseAt_putLease s i i (some { l with count := some { k with spent := k.spent + 1 } })
      refine recordLaw_of_set (i := i) h.record (g := (s.slot i).generation)
        (x := some (Lease.afterEnd { l with count := some { k with spent := k.spent + 1 } } .countSpent s.clock none))
        ?_ fun m hm => ?_
      · rw [endLease_slots, hput, if_pos rfl, Option.map_some, State.slot_putLease, if_pos rfl]
        exact Vector.set_set ..
      · obtain rfl := Option.some.inj hm
        obtain ⟨hw, hv⟩ :=
          Lease.afterEnd_inactive { l with count := some { k with spent := k.spent + 1 } } .countSpent s.clock none
        have hsame : ∀ (x : Lease), (x.afterEnd .countSpent s.clock none).outputs = x.outputs ∧
            (x.afterEnd .countSpent s.clock none).term = x.term ∧ (x.afterEnd .countSpent s.clock none).count = x.count := by
          intro x
          unfold Lease.afterEnd
          split <;> exact ⟨rfl, rfl, rfl⟩
        obtain ⟨e1, e2, e3⟩ := hsame { l with count := some { k with spent := k.spent + 1 } }
        refine ⟨hg, Lease.inRange_iff.mpr ⟨by rw [e1]; exact hS, by rw [e2]; exact ht, fun k' hk' => ?_⟩⟩
        obtain rfl := Option.some.inj (e3.symm.trans hk')
        exact ⟨h4, h5, by simp [hv], by simp [hw]⟩
    next hspent =>
      refine h.relabel hl rfl (Lease.inRange_iff.mpr ⟨hS, ht, fun k' hk' => ?_⟩)
      obtain rfl := Option.some.inj hk'
      refine ⟨h4, h5, fun _ => by dsimp only; omega, fun hw => ?_⟩
      simp [Phase.not_live_of_waiting hw] at hlive

theorem offer (h : Clocked D s) {i : SlotId} {l : Lease} {ga d : Tick} (r : Client) {n : Nat} (hl : s.leaseAt i = some l)
    (hp : l.phase = .live ga d) (h1 : 1 ≤ n) (hn : n ≤ Config.maxOfferTime) : Clocked D (s.offeredTo i l ga d r n) := by
  have hset : ∀ j, (s.offeredTo i l ga d r n).leaseAt j =
      if i = j then some { l with phase := .offered ga d r (s.after n) } else s.leaseAt j :=
    State.leaseAt_of_set (x := ⟨(s.slot i).generation, _⟩) rfl
  refine ⟨h.timed.addOf hset (k := .offer i) (n := n) rfl rfl rfl rfl h1 (hn.trans (by decide)) (by simp [Key.ofSlot]) rfl
    (by rw [hl]; simp [slotCalls, hp, Phase.offerDeadline]) rfl rfl fun j hj hne => ?_, ?_, faultLaw_congr rfl h.fault⟩
  · rw [hl]
    rcases Key.eq_of_ofSlot hj with rfl | rfl | rfl
    · simp [slotCalls, slotRecords, hp, Phase.isLive, Phase.deadline]
    · exact absurd rfl hne
    · simp [slotCalls, hp, Phase.isWaiting]
  · refine recordLaw_of_set (s := s) (i := i) h.record rfl fun x hx => ?_
    obtain rfl := Option.some.inj hx
    obtain ⟨hg, hr⟩ := h.record.inRange hl
    exact ⟨hg, Lease.inRange_of_phase hr rfl rfl rfl (fun _ => by rw [hp]; rfl) nofun⟩

theorem accept (h : Clocked D s) {i : SlotId} {l : Lease} {ga d od : Tick} {c : Client} (hl : s.leaseAt i = some l)
    (hp : l.phase = .offered ga d c od) : Clocked D (s.acceptedBy i l ga d c) := by
  have hset : ∀ j, (s.acceptedBy i l ga d c).leaseAt j =
      if i = j then some { l with holder := c, phase := .live ga d } else s.leaseAt j :=
    State.leaseAt_of_set (x := ⟨(s.slot i).generation, _⟩) rfl
  refine ⟨h.timed.dropOf hset (k := .offer i) rfl rfl rfl rfl (by simp [Key.ofSlot]) rfl fun j hj hne => ?_, ?_,
    faultLaw_congr rfl h.fault⟩
  · rw [hl]
    rcases Key.eq_of_ofSlot hj with rfl | rfl | rfl
    · simp [slotCalls, slotRecords, hp, Phase.isLive, Phase.deadline]
    · exact absurd rfl hne
    · simp [slotCalls, hp, Phase.isWaiting]
  · refine recordLaw_of_set (s := s) (i := i) h.record rfl fun x hx => ?_
    obtain rfl := Option.some.inj hx
    obtain ⟨hg, hr⟩ := h.record.inRange hl
    exact ⟨hg, Lease.inRange_of_phase hr rfl rfl rfl (fun _ => by rw [hp]; rfl) nofun⟩

/-- A partner set is none of the clock's business. -/
theorem setPair (h : Clocked D s) (a b : OutputId) (p : Bool) : Clocked D (s.setPair a b p) := by
  have hput : ∀ {t : State} (o : OutputId) (Q : OutputSet), Clocked D t → Clocked D (t.putPartners o Q) := by
    intro t o Q ht
    have hout : ∀ q, ((t.putPartners o Q).output q).state = (t.output q).state ∧
        ((t.putPartners o Q).output q).maxTerm = (t.output q).maxTerm ∧
        ((t.putPartners o Q).output q).gap = (t.output q).gap := fun q => by
      rw [t.output_putPartners]
      split
      next hq => subst hq; exact ⟨rfl, rfl, rfl⟩
      next => exact ⟨rfl, rfl, rfl⟩
    refine ⟨ht.timed.remask rfl rfl ⟨fun q => ?_, ht.timed.setting.2⟩ (State.recorded_congr rfl) fun k => ?_,
      recordLaw_congr rfl ht.record, faultLaw_congr rfl ht.fault⟩
    · rw [(hout q).2.1, (hout q).2.2]; exact ht.timed.setting.1 q
    · rw [State.callsFor_congr (s := t) (t := t.putPartners o Q) rfl (fun q => by rw [(hout q).1]) fun _ => ⟨rfl, rfl⟩]
  unfold State.setPair
  split
  · exact hput _ _ (hput _ _ h)
  · exact hput _ _ (hput _ _ h)

theorem restartFault (h : Clocked D s) {x : FaultChannel} (ch : FaultId) (hx : x.Restarted) :
    Clocked D (((s.unscheduleFault ch).uncut ch ((s.unscheduleFault ch).cutByChannel ch)).putFault ch x) := by
  have hset : 2 ≤ x.filterSamples ∧ x.filterSamples ≤ 16 ∧ 1 ≤ x.recoveryDelay ∧ x.recoveryDelay ≤ Config.maxWait ∧
      1 ≤ x.latchLimit ∧ x.latchLimit ≤ 15 ∧ 1 ≤ x.quietPeriod ∧ x.quietPeriod ≤ Config.maxTicks :=
    ⟨hx.filterSamples.1, hx.filterSamples.2, hx.recoveryDelay.1, hx.recoveryDelay.2, hx.latchLimit.1, hx.latchLimit.2,
      hx.quietPeriod.1, hx.quietPeriod.2⟩
  refine ⟨((h.timed.unscheduleFault ch).uncut ch _).putFault hset ?_ ?_ fun k hr hq => ?_,
    recordLaw_congr (uncut_slots _ ch _) h.record,
    faultLaw_of_set (s := s) (ch := ch) (x := x)
      (congrArg (fun v => Vector.set v ch x) (uncut_faults (s.unscheduleFault ch) ch _)) h.fault ?_⟩
  · simp [hx.state, Timed.channelKeys]
  · simp [hx.tripCount, Timed.channelKeys]
  · simp [allThere, Timed.channelKeys, hr, hq]
  · obtain ⟨h1, h15⟩ := hx.latchLimit
    obtain ⟨h2, h16⟩ := hx.filterSamples
    unfold FaultChannel.Lawful
    simp [hx.state, hx.tripCount, hx.filtered, hx.run, h1, h15, h16]
    omega

theorem releaseFault (h : Clocked D s) {ch : FaultId} (hst : (s.fault ch).state = .latched)
    (hf : (s.fault ch).filtered = false) :
    Clocked D ((s.putFault ch { s.fault ch with state := .idle, tripCount := 0 }).uncut ch (members (s.fault ch).cutSet)) := by
  obtain ⟨-, -, h1, h15, -, -, -, hrun, h16⟩ := h.fault ch
  refine ⟨(h.timed.putFault (x := { s.fault ch with state := .idle, tripCount := 0 }) (h.timed.setting.channel ch)
      ?_ ?_ fun _ _ _ => rfl).uncut ch _,
    recordLaw_congr (uncut_slots _ ch _) h.record, faultLaw_of_set (uncut_faults _ ch _) h.fault ?_⟩
  · simp only [State.callsFor, hst]
    rfl
  · simp [State.callsFor, hst]
  · unfold FaultChannel.Lawful
    simp [hf, h1, h15, h16, hrun]
    omega

end Clocked

/-- The operations against the law of the deadlines. -/
theorem onTime_kept : Kept OnTime where
  outside _ _ _ := fun ⟨D, h⟩ => ⟨D, h.of_eq rfl rfl rfl rfl rfl⟩
  writeSlot _ _ := fun ⟨D, h⟩ => ⟨D, h.of_eq rfl rfl rfl rfl rfl⟩
  conclude _ _ := fun ⟨D, h⟩ => ⟨D, h.of_eq rfl rfl rfl rfl rfl⟩
  notify c k := fun ⟨D, h⟩ => ⟨D, h.notify c k⟩
  freeSlot i := fun ⟨D, h⟩ => ⟨D, h.freeSlot i⟩
  endLease i why d := fun ⟨D, h⟩ => ⟨D, h.endLease i why d⟩
  grantWaiting hl hw _ := fun ⟨D, h⟩ => ⟨D, h.grantWaiting hl hw⟩
  resolveOffer i o := fun ⟨D, h⟩ => ⟨D, h.resolveOffer i o⟩
  setOutcome _ _ _ := fun ⟨D, h⟩ => ⟨D, h.of_eq rfl rfl rfl rfl rfl⟩
  ackEnd hl hw hlive := fun ⟨D, h⟩ => ⟨D, h.ackEnd hl hw hlive⟩
  grantNew _ hfit hb _ := fun ⟨D, h⟩ => ⟨D, h.grantNew hfit hb⟩
  queueNew _ hfit hb hw _ := fun ⟨D, h⟩ => ⟨D, h.queueNew hfit hb hw⟩
  renew hl hlive h1 hn := fun ⟨D, h⟩ => ⟨D, h.renew hl hlive h1 hn⟩
  extend hl hlive hk _ hn := fun ⟨D, h⟩ => ⟨D, h.extend hl hlive hk hn⟩
  offer hl hp _ _ h1 hn := fun ⟨D, h⟩ => ⟨D, h.offer _ hl hp h1 hn⟩
  accept hl hp _ _ := fun ⟨D, h⟩ => ⟨D, h.accept hl hp⟩
  start _ := fun ⟨D, h⟩ => ⟨D, h.of_eq rfl rfl rfl rfl rfl⟩
  halt _ _ := fun ⟨D, h⟩ => ⟨D, h.of_eq rfl rfl rfl rfl rfl⟩
  setOutput o _ _ _ hm hg := fun ⟨D, h⟩ =>
    ⟨D, h.timed.putOutput o hm hg Iff.rfl, recordLaw_congr rfl h.record, faultLaw_congr rfl h.fault⟩
  setPair p _ _ := fun ⟨D, h⟩ => ⟨D, h.setPair _ _ p⟩
  putCount _ _ := fun ⟨D, h⟩ => ⟨D, h.of_eq rfl rfl rfl rfl rfl⟩
  setQuota _ := fun ⟨D, h⟩ => ⟨D, h.of_eq rfl rfl rfl rfl rfl⟩
  setMask _ _ := fun ⟨D, h⟩ => ⟨D, h.of_eq rfl rfl rfl rfl rfl⟩
  readNotices _ := fun ⟨D, h⟩ => ⟨D, h.of_eq rfl rfl rfl rfl rfl⟩
  openFresh _ _ := fun ⟨D, h⟩ => ⟨D, h.of_eq rfl rfl rfl rfl rfl⟩
  closeRecord _ := fun ⟨D, h⟩ => ⟨D, h.of_eq rfl rfl rfl rfl rfl⟩
  chargeSlot ch i := fun ⟨D, h⟩ => ⟨D, h.chargeSlot ch i⟩
  restartFault ch hx := fun ⟨D, h⟩ => ⟨D, h.restartFault ch hx⟩
  releaseFault hst hf := fun ⟨D, h⟩ => ⟨D, h.releaseFault hst hf⟩
  levelChange ch := fun ⟨D, h⟩ => ⟨D, h.levelChange ch⟩
  deliverFront {s k} hd := fun ⟨D, h⟩ => by
    unfold State.frontDue at hd
    split at hd
    · simp at hd
    next e q he =>
      obtain ⟨-, rfl⟩ : e.deadline = s.clock ∧ e.key = k := by simpa using hd
      exact ⟨_, h.deliverFront he⟩
  tick lines := fun ⟨_, h⟩ => ⟨_, h.finishTick.tick lines⟩

theorem deadlineLaw_of_reset {t : State} (hslots : t.slots = State.reset.slots) (ho : t.outputs = State.reset.outputs)
    (hf : t.faults = State.reset.faults) (he : t.expiry = []) : t.DeadlineLaw := by
  have hlease := State.leaseAt_of_reset hslots
  have hout : ∀ o, t.output o = Output.reset := fun o => by simp [State.output, ho, State.reset]
  have hfault : ∀ ch, t.fault ch = FaultChannel.reset := fun ch => by simp [State.fault, hf, State.reset]
  refine ⟨⟨by simp [he], fun k _ => ?_, by simp [he], by simp [he], by simp [he]⟩, fun ch => ?_, fun i => ?_, fun o => ?_,
    fun ch => ?_⟩
  · have hno : t.callsFor k = false := by
      cases k with
      | lease i | offer i | wait i => rw [State.callsFor_of_ofSlot (i := i) (by simp [Key.ofSlot]), hlease]; rfl
      | settle o => simp [State.callsFor, hout, Output.reset]
      | recover ch | quiet ch => simp [State.callsFor, hfault, FaultChannel.reset]
    simp [he, hno]
  · rw [hfault]; decide
  · rw [State.slotInRange, hlease]
  · rw [hout]; decide
  · rw [hfault]; decide

/-- Settles O57: every operation takes out the entries of what is no longer called for and inserts those of what is called for
anew, and a tick finds nothing due. -/
theorem stepKeepsTheDeadlines : Obligations.StepKeepsTheDeadlines := by
  unfold Obligations.StepKeepsTheDeadlines
  intro s t hs ht
  rw [deadlineLaw_iff_onTime] at hs ⊢
  exact onTime_kept.step (fun _ _ _ _ => deadlineLaw_iff_onTime.mp (deadlineLaw_of_reset rfl rfl rfl rfl)) hs ht

end Sys2Proof.Machine
end

section
/-! SUPPORT. What an advance of the clock does: the deliveries one by one and the changes of level after them (R72, R79, R80,
R122), and that a delivering advance leaves nothing due (R73). -/

namespace Sys2Proof.Machine

/-! ### Changes of level -/

/-- The change that was due on a channel is taken, and no other channel moves (R122). -/
theorem levelChange_faults (s : State) (ch : FaultId) :
    ∃ x : FaultChannel, x.changeDue = false ∧ (s.levelChange ch).faults = s.faults.set ch x := by
  rcases levelChange_cases s ch with ⟨-, -, h⟩ | ⟨-, -, h⟩ | ⟨-, -, h⟩
  · obtain ⟨b, hb⟩ := trip_eq s ch { s.fault ch with filtered := !(s.fault ch).filtered, run := 0, changeDue := false }
    refine ⟨_, ?_, by rw [h, hb, (reviewIf_spares _ b).faults, (notify_spares _ 0 .fault).faults, tripBase_faults]⟩
    rfl
  · exact ⟨_, rfl, by rw [h]; rfl⟩
  · exact ⟨_, rfl, by rw [h]; rfl⟩

theorem changeDue_levelChange (s : State) (ch c : FaultId) :
    ((s.levelChange ch).fault c).changeDue = if ch = c then false else (s.fault c).changeDue := by
  obtain ⟨x, hx, hf⟩ := levelChange_faults s ch
  have hfault : (s.levelChange ch).fault c = if ch = c then x else s.fault c := by
    simp [State.fault, hf, Vector.getElem_set, Fin.val_inj]
  rw [hfault]
  split
  · exact hx
  · rfl

/-- Once every change is taken none is due (R122). -/
theorem changeDue_takeChanges (s : State) (c : FaultId) : (s.takeChanges.fault c).changeDue = false := by
  have hfold : ∀ (L : List FaultId) (t : State), (t.fault c).changeDue = false ∨ c ∈ L →
      ((L.foldl (fun t ch => if (t.fault ch).changeDue then t.levelChange ch else t) t).fault c).changeDue = false := by
    intro L
    induction L with
    | nil => exact fun t h => h.elim id (by simp)
    | cons ch L ih =>
      intro t h
      refine ih _ ?_
      dsimp only
      by_cases hch : ch = c
      · subst hch
        left
        split
        next => rw [changeDue_levelChange, if_pos rfl]
        next hd => simpa using hd
      · refine h.imp (fun hd => ?_) fun hc => (List.mem_cons.mp hc).resolve_left (Ne.symm hch)
        split
        next => rw [changeDue_levelChange, if_neg hch]; exact hd
        next => exact hd
  exact hfold _ s (.inr (List.mem_finRange c))

/-- Where no change is due, none is taken. -/
theorem takeChanges_of_none {s : State} (h : ∀ ch, (s.fault ch).changeDue = false) : s.takeChanges = s := by
  have hfold : ∀ L : List FaultId, L.foldl (fun t ch => if (t.fault ch).changeDue then t.levelChange ch else t) s = s := by
    intro L
    induction L with
    | nil => rfl
    | cons ch L ih => rw [List.foldl_cons, if_neg (by simp [h ch])]; exact ih
  exact hfold _

/-! ### The events of a tick -/

theorem deliverDue_of_none {n : Nat} {s : State} (h : ∀ e ∈ s.expiry, e.deadline ≠ s.clock) : deliverDue n s = s := by
  cases n with
  | zero => rfl
  | succ n =>
    unfold deliverDue
    split
    next => rfl
    next e q he => rw [if_neg (h e (he ▸ List.mem_cons_self))]

/-- With no entry due, the events of the tick are the due changes of level in ascending channel order (R79, R122). -/
theorem finishTick_of_none {s : State} (h : ∀ e ∈ s.expiry, e.deadline ≠ s.clock) : s.finishTick = s.takeChanges := by
  rw [State.finishTick, deliverDue_of_none h]

theorem State.deliverFront_eq {s : State} {e : Entry} {q : List Entry} (he : s.expiry = e :: q) (k : Key) :
    s.deliverFront k = State.deliver { s with expiry := q } k := by
  rw [State.deliverFront, he, List.tail_cons]

/-- The entry at the front is delivered first, and the events of the tick go on from there (R79). -/
theorem finishTick_of_front {s : State} {k : Key} {q : List Entry} (hs : s.DeadlineLaw) (he : s.expiry = ⟨s.clock, k⟩ :: q) :
    s.finishTick = (State.deliver { s with expiry := q } k).finishTick := by
  have hclk := deadlineLaw_iff_clocked.mp hs
  have hnext : Clocked (s.expiry.erase ⟨s.clock, k⟩) (State.deliver { s with expiry := q } k) := by
    rw [← State.deliverFront_eq he]
    exact hclk.deliverFront he
  rw [he, List.erase_cons_head] at hnext
  have hfirst : deliverDue s.expiry.length s = deliverDue q.length (State.deliver { s with expiry := q } k) := by
    rw [he, List.length_cons, deliverDue, he]
    dsimp only
    rw [if_pos rfl, State.deliverFront_eq he]
  rw [State.finishTick, State.finishTick, hfirst, hnext.deliverDue_eq hnext.weaken le_rfl le_rfl]

/-- The row of an entry at the front and due hands it to its owner (R79, R80). -/
theorem dueEvent_of_front {s : State} {k : Key} {q : List Entry} (hrun : s.power = .running)
    (he : s.expiry = ⟨s.clock, k⟩ :: q) : s.dueEvent k = State.deliver { s with expiry := q } k := by
  rw [State.dueEvent, if_pos ⟨hrun, by simp [State.frontDue, he]⟩, State.deliverFront_eq he]

/-- An entry that is not at the front, or not due, is not delivered. -/
theorem dueEvent_of_not_front {s : State} {k : Key} (h : s.frontDue k = false) : s.dueEvent k = s := by
  rw [State.dueEvent, if_neg (by simp [h])]

theorem exec_row (k : Key) (s : State) : exec k.row s = .next (s.dueEvent k) := by
  cases k <;> rfl

/-- A sample of a fault channel's line, by whether its level agrees with the filtered one (R122). -/
theorem FaultChannel.sampled_eq (x : FaultChannel) (level : Bool) :
    x.sampled level =
      if x.enabled = false then x
      else if (level = x.activeHigh ↔ x.filtered = true) then { x with run := 0 }
      else if x.run + 1 < x.filterSamples then { x with run := x.run + 1 }
      else { x with changeDue := true } := by
  unfold FaultChannel.sampled
  have hagree : ((level == x.activeHigh) == x.filtered) = true ↔ (level = x.activeHigh ↔ x.filtered = true) := by
    rw [beq_iff_eq, Bool.eq_iff_iff, beq_iff_eq]
  cases x.enabled
  · rfl
  · simp only [hagree, if_true, Bool.true_eq_false, if_false]

/-- The tick, field by field (R72, R122). -/
theorem State.tick_eq (m : State) (lines : Vector Bool 4) :
    m.tick lines =
      { m with
        clock := m.clock + 1
        pins := { m.pins with fault := lines }
        faults := Vector.ofFn fun ch : FaultId =>
          if (m.fault ch).enabled = false then m.fault ch
          else if (lines[ch] = (m.fault ch).activeHigh ↔ (m.fault ch).filtered = true) then { m.fault ch with run := 0 }
          else if (m.fault ch).run + 1 < (m.fault ch).filterSamples then { m.fault ch with run := (m.fault ch).run + 1 }
          else { m.fault ch with changeDue := true } } := by
  have hsample : (fun ch : FaultId => (m.fault ch).sampled lines[ch]) = _ :=
    funext fun ch => FaultChannel.sampled_eq (m.fault ch) lines[ch]
  show { m with clock := m.clock + 1, pins := _, faults := Vector.ofFn fun ch : FaultId => (m.fault ch).sampled lines[ch] } = _
  rw [hsample]

theorem changeDue_finishTick (s : State) (c : FaultId) : (s.finishTick.fault c).changeDue = false :=
  changeDue_takeChanges _ c

theorem exec_clockAdvance {s : State} (hrun : s.power = .running) (lines : Vector Bool 4) :
    exec (.clockAdvance lines .stepwise) s = .next (s.finishTick.tick lines) ∧
      exec (.clockAdvance lines .within) s = .next (s.finishTick.tick lines).finishTick :=
  ⟨congrArg Host.Outcome.next (if_pos hrun), congrArg Host.Outcome.next (if_pos hrun)⟩

/-- Settles O36: the advance by its definition, the deliveries by the fuel that the entries due cannot use up. -/
theorem clockAdvanceTicksAndSamples : Obligations.ClockAdvanceTicksAndSamples := by
  unfold Obligations.ClockAdvanceTicksAndSamples
  intro s lines
  refine ⟨fun hrun => ?advance, fun hrun how => ?held, fun hdue hch => ?quiet, fun k q he => ⟨fun hrun => ?row, fun hs => ?front⟩,
    fun hdue => ?changes, fun ch hrun hd => ⟨fun hf hst => ?trip, fun hf hst => ?clear, fun hst => ?latched⟩⟩
  case advance =>
    have htick := exec_clockAdvance hrun lines
    rw [State.tick_eq] at htick
    exact htick
  case held => exact congrArg Host.Outcome.next (if_neg hrun)
  case quiet => rw [finishTick_of_none hdue, takeChanges_of_none hch]
  case row => rw [exec_row, dueEvent_of_front hrun he]
  case front => exact finishTick_of_front hs he
  case changes => exact finishTick_of_none hdue
  case trip => exact congrArg Host.Outcome.next (if_pos ⟨hrun, hd, hf, hst⟩)
  case clear => exact congrArg Host.Outcome.next (if_pos ⟨hrun, hd, hf, hst⟩)
  case latched => exact congrArg Host.Outcome.next (if_pos ⟨hrun, hd, hst⟩)

/-- Settles O37: what the finished tick leaves is one to 600000 ticks ahead by the law of the deadlines. -/
theorem advanceDeliversEverythingDue : Obligations.AdvanceDeliversEverythingDue := by
  unfold Obligations.AdvanceDeliversEverythingDue
  intro s t lines hrun hs ht
  rw [(exec_clockAdvance hrun lines).2] at ht
  obtain rfl := Host.Outcome.next.inj ht
  have hclk := ((deadlineLaw_iff_clocked.mp hs).finishTick.tick lines).finishTick
  have hch := changeDue_finishTick (s.finishTick.tick lines)
  generalize (s.finishTick.tick lines).finishTick = u at hclk hch
  refine ⟨fun e he => ⟨?_, hclk.timed.tracks.near e he⟩, hch⟩
  by_contra hzero
  have hdue := remaining_eq_zero.mp (by omega : remaining u.clock e.deadline = 0)
  simpa using hclk.timed.tracks.fresh e he hdue

end Sys2Proof.Machine
end

section
/-! SUPPORT. The step, the link's receiver on any bytes, and the device reset (9.5, 10.1 to 10.3): what a row that is no
command does to the receiver and the selector, and the values at reset. -/

namespace Sys2Proof.Machine

/-! ### The step -/

/-- Settles O1. -/
theorem stepRunsFrontCommand : Obligations.StepRunsFrontCommand := by
  unfold Obligations.StepRunsFrontCommand
  exact ⟨fun s c rest h => by rw [step, h], fun s h => by rw [step, h]⟩

/-! ### The receiver on any bytes -/

/-- The link `m` with the selector and the address of `l`, which no byte of a transaction reads. -/
def Link.withNames (m l : Link) : Link := { m with selector := l.selector, address := l.address }

theorem Link.nextByte_withNames (m l : Link) (b : Byte) :
    (m.withNames l).nextByte b = ((m.nextByte b).1.withNames l, (m.nextByte b).2) := by
  obtain ⟨rx, p, v, sel, addr, sda⟩ := m
  unfold Link.nextByte Link.withNames
  cases rx <;> dsimp only
  case frame => (repeat' split) <;> rfl
  all_goals rfl

theorem Link.firstByte_withNames (m l : Link) (b : Byte) :
    (m.withNames l).firstByte b = ((m.firstByte b).1.withNames l, (m.firstByte b).2) := by
  unfold Link.firstByte
  split
  · rfl
  · split <;> rfl

/-- A START drops whatever was in progress, so the receiver goes the way it goes from its reset values, and keeps the selector
and the address (R167). -/
theorem Link.receive_eq (l : Link) (bs : List Byte) : l.receive bs = (Link.reset.receive bs).withNames l := by
  have hfirst : ∀ b, (l.firstByte b).1 = (Link.reset.firstByte b).1.withNames l := by
    intro b
    unfold Link.firstByte
    split
    · rfl
    · split <;> rfl
  have hfold : ∀ (xs : List Byte) (m : Link), xs.foldl (fun m x => (m.nextByte x).1) (m.withNames l) =
      (xs.foldl (fun m x => (m.nextByte x).1) m).withNames l := by
    intro xs
    induction xs with
    | nil => exact fun _ => rfl
    | cons x xs ih => intro m; rw [List.foldl_cons, Link.nextByte_withNames, ih, List.foldl_cons]
  cases bs with
  | nil => rfl
  | cons b bs => rw [Link.receive, hfirst, hfold, Link.receive]

theorem Link.toIdle_receive (l : Link) (bs : List Byte) : (l.receive bs).toIdle = l.toIdle := by
  rw [Link.receive_eq]; rfl

/-- The receiver drives nothing while it takes a write, and in DISCARD it holds no partial frame (R167). -/
structure Link.Writing (m : Link) : Prop where
  sda : m.drivingSda = false
  dropped : m.rx = .discard → m.partialFrame = [] ∧ m.running = 0xFF

theorem Link.Writing.nextByte {m : Link} (h : m.Writing) (b : Byte) : (m.nextByte b).1.Writing := by
  have hdiscard : m.toDiscard.Writing := ⟨h.sda, fun _ => ⟨rfl, rfl⟩⟩
  have hkeep : (m.keep b).Writing := ⟨h.sda, nofun⟩
  unfold Link.nextByte
  split
  · dsimp only
    split
    · exact hkeep
    split
    · split
      · exact hkeep
      · exact hdiscard
    split
    · exact hkeep
    split
    · exact ⟨h.sda, nofun⟩
    · exact hdiscard
  · exact hdiscard
  · exact hdiscard
  all_goals exact h

theorem Link.writing_receive (l : Link) (bs : List Byte) : (l.receive bs).Writing := by
  have hfold : ∀ (xs : List Byte) (m : Link), m.Writing → (xs.foldl (fun m x => (m.nextByte x).1) m).Writing := by
    intro xs
    induction xs with
    | nil => exact fun _ h => h
    | cons x xs ih => exact fun m h => ih _ (h.nextByte x)
  cases bs with
  | nil => exact ⟨rfl, nofun⟩
  | cons b bs =>
    refine hfold bs _ ?_
    unfold Link.firstByte
    split
    · exact ⟨rfl, nofun⟩
    · split
      · exact ⟨rfl, nofun⟩
      · exact ⟨rfl, fun _ => ⟨rfl, rfl⟩⟩

/-- A receiver in DISCARD is otherwise as in IDLE (R167). -/
theorem Link.receive_of_discard {l : Link} {bs : List Byte} (h : (l.receive bs).rx = .discard) :
    l.receive bs = { l.toIdle with rx := .discard } := by
  have hw := l.writing_receive bs
  obtain ⟨hp, hv⟩ := hw.dropped h
  have hsda := hw.sda
  rw [← l.toIdle_receive bs]
  cases hm : l.receive bs
  simp only [hm] at hp hv h hsda
  simp [Link.toIdle, h, hp, hv, hsda]

theorem Link.rx_receive (l : Link) (bs : List Byte) : (l.receive bs).rx = (Link.reset.receive bs).rx := by
  rw [Link.receive_eq]; rfl

/-! ### The acknowledge bits of a frame (R168) -/

theorem Link.acks_go_append (m : Link) (xs ys : List Byte) :
    Link.acks.go m (xs ++ ys) = Link.acks.go m xs ++ Link.acks.go (xs.foldl (fun m x => (m.nextByte x).1) m) ys := by
  induction xs generalizing m with
  | nil => rfl
  | cons x xs ih => simp [Link.acks.go, ih]

/-- Bytes that the receiver keeps in FRAME are acknowledged. -/
theorem Link.acks_go_keep {m : Link} (ps : List Byte) (hr : m.rx = .frame) (h5 : 4 < m.partialFrame.length)
    (hn : m.partialFrame.length + ps.length ≤ 5 + (m.partialFrame.getD 4 0).toNat) :
    Link.acks.go m ps = List.replicate ps.length true := by
  induction ps generalizing m with
  | nil => rfl
  | cons b ps ih =>
    simp only [List.length_cons] at hn
    have hack : (m.nextByte b).2 = true := by
      unfold Link.nextByte
      rw [hr]
      dsimp only
      rw [if_neg (by omega), if_neg (by omega), if_pos (by omega)]
    have hd : (m.keep b).partialFrame.getD 4 0 = m.partialFrame.getD 4 0 := by
      simp [Link.keep, List.getD_eq_getElem?_getD, List.getElem?_append_left h5]
    rw [Link.acks.go, hack, Link.nextByte_keep hr (.inr ⟨h5, by omega⟩), List.length_cons, List.replicate_succ]
    refine congrArg _ (ih rfl (by simp [Link.keep]; omega) ?_)
    rw [hd]
    simp only [Link.keep, List.length_append, List.length_singleton]
    omega

/-- Every byte of a frame before its check byte is acknowledged, and the check byte when it is right (R168, R169). -/
theorem Link.acks_frame (l : Link) {code : Byte} {f : Frame} (hc : f.client.toNat < 8)
    (hp : f.params.length ≤ Config.maxParams) :
    l.acks (frameBytes code f) = List.replicate (5 + f.params.length) true ++ [f.check == crc8 (frameBody code f)] := by
  have hack : ∀ {m : Link} (b : Byte), m.rx = .frame → m.partialFrame.length < 4 → m.nextByte b = (m.keep b, true) := by
    intro m b hr hlt
    unfold Link.nextByte
    rw [hr]
    dsimp only
    rw [if_pos hlt]
  have hlength : ∀ {m : Link}, m.rx = .frame → m.partialFrame.length = 4 →
      m.nextByte (byte f.params.length) = (m.keep (byte f.params.length), true) := by
    intro m hr hl
    simp [Link.nextByte, hr, hl, byte_length hp, hp]
  have hfirst : l.firstByte f.client = (l.toIdle.keep f.client, true) := by simp [Link.firstByte, hc]
  have hbytes : frameBytes code f = f.client :: f.epoch :: f.seq :: code :: byte f.params.length :: (f.params ++ [f.check]) := by
    simp [frameBytes, frameBody]
  rw [hbytes]
  simp only [Link.acks, Link.acks.go, hfirst]
  rw [hack f.epoch rfl (by simp [Link.keep, Link.toIdle])]
  dsimp only
  rw [hack f.seq rfl (by simp [Link.keep, Link.toIdle])]
  dsimp only
  rw [hack code rfl (by simp [Link.keep, Link.toIdle])]
  dsimp only
  rw [hlength rfl (by simp [Link.keep, Link.toIdle])]
  dsimp only
  -- the receiver with the five bytes of the head
  have hhead : ((((l.toIdle.keep f.client).keep f.epoch).keep f.seq).keep code).keep (byte f.params.length) =
      { l with rx := .frame, partialFrame := [f.client, f.epoch, f.seq, code, byte f.params.length]
               running := crc8 [f.client, f.epoch, f.seq, code, byte f.params.length], drivingSda := false } := rfl
  rw [hhead, Link.acks_go_append, Link.acks_go_keep f.params rfl (by simp) (by simp [byte_length hp]),
    Link.keep_run rfl (by simp) f.params (by simp [byte_length hp])]
  have hcrc : f.params.foldl crcByte (crc8 [f.client, f.epoch, f.seq, code, byte f.params.length]) = crc8 (frameBody code f) := by
    simp [crc8, frameBody]
  have hcheck : (Link.nextByte { l with rx := .frame, partialFrame := frameBody code f, running := crc8 (frameBody code f)
                                        drivingSda := false } f.check).2 = (f.check == crc8 (frameBody code f)) := by
    simp only [Link.nextByte, frameBody_length, frameBody_lengthByte, byte_length hp]
    rw [if_neg (by omega), if_neg (by omega), if_neg (by omega)]
    split <;> simp_all
  rw [hcrc]
  have hgo : ∀ m x, Link.acks.go m [x] = [(m.nextByte x).2] := fun _ _ => rfl
  rw [hgo]
  have hsame : [f.client, f.epoch, f.seq, code, byte f.params.length] ++ f.params = frameBody code f := rfl
  rw [hsame, hcheck, Nat.add_comm 5]
  simp [List.replicate_succ]

/-- Settles O2: the receiver over a frame whose check byte is right. -/
theorem wellFormedFrameIsReadBack : Obligations.WellFormedFrameIsReadBack := by
  unfold Obligations.WellFormedFrameIsReadBack
  intro l code f c hw hclient
  simp only [Frame.wf, Bool.and_eq_true, decide_eq_true_eq, beq_iff_eq] at hw
  obtain ⟨⟨hc, hp⟩, hk⟩ := hw
  have hsender : Fin.ofNat 8 f.client.toNat = c := by rw [hclient, byte_client]; simp
  have hreceive := Link.receive_frame l (code := code) hc hp
  rw [if_pos hk] at hreceive
  rw [hreceive]
  refine ⟨rfl, rfl, rfl, ?_, ?_⟩
  · rw [receivedOf_frameBytes, hsender]
  · rw [Link.acks_frame l hc hp, hk, beq_self_eq_true, ← List.replicate_succ', Nat.add_right_comm]

/-! ### Frame rows -/

/-- A row that is a frame is carried out by the link's frame row (R170). -/
theorem exec_frame {i : Instr} {code : Byte} {f : Frame} (h : i.frame? = some (code, f))
    (hk : ∀ g k, i = .unknownCommand g k → lookupCommand k = none) :
    ∃ take, ∀ s, exec i s = .next (frameRow code take f s) := by
  cases i with
  | unknownCommand g k =>
    obtain ⟨rfl, rfl⟩ : k = code ∧ g = f := by simpa [Instr.frame?] using h
    exact ⟨accept noBody, fun s => congrArg Host.Outcome.next (if_pos (by simp [hk g k rfl]))⟩
  | _ =>
    first
    | exact ⟨_, fun s => by obtain ⟨rfl, rfl⟩ := Prod.mk.inj (Option.some.inj h); rfl⟩
    | simp [Instr.frame?] at h

/-- A well-formed row of another code than OPEN's goes through the acceptance of R175. -/
theorem exec_command {i : Instr} {code : Byte} {f : Frame} (h : i.frame? = some (code, f)) (hw : i.wf = true)
    (hopen : code ≠ 0x01) : ∃ body, ∀ s, exec i s = .next (frameRow code (accept body) f s) := by
  cases i with
  | openSession g sen =>
    obtain ⟨rfl, -⟩ := Prod.mk.inj (Option.some.inj h)
    exact absurd rfl hopen
  | unknownCommand g k =>
    obtain ⟨rfl, rfl⟩ : k = code ∧ g = f := by simpa [Instr.frame?] using h
    simp only [Instr.wf, Bool.and_eq_true] at hw
    exact ⟨noBody, fun s => congrArg Host.Outcome.next (if_pos hw.2)⟩
  | _ =>
    first
    | exact ⟨_, fun s => by obtain ⟨rfl, rfl⟩ := Prod.mk.inj (Option.some.inj h); rfl⟩
    | simp [Instr.frame?] at h

/-- The frame of a well-formed row passes the link's checks (R168). -/
theorem frame_wf_of_wf {i : Instr} {code : Byte} {f : Frame} (h : i.frame? = some (code, f)) (hw : i.wf = true) :
    f.wf code = true := by
  cases i with
  | unknownCommand g k =>
    obtain ⟨rfl, rfl⟩ : k = code ∧ g = f := by simpa [Instr.frame?] using h
    simp only [Instr.wf, Bool.and_eq_true] at hw
    exact hw.1
  | _ =>
    first
    | (obtain ⟨rfl, rfl⟩ := Prod.mk.inj (Option.some.inj h); exact hw)
    | exact absurd h (by simp [Instr.frame?])

theorem exec_frame_held {i : Instr} {code : Byte} {f : Frame} {s : State} (h : i.frame? = some (code, f))
    (hs : s.power ≠ .running) : exec i s = .next s := by
  by_cases hk : ∀ g k, i = .unknownCommand g k → lookupCommand k = none
  · obtain ⟨take, hexec⟩ := exec_frame h hk
    rw [hexec, frameRow_held hs]
  · push Not at hk
    obtain ⟨g, k, rfl, hne⟩ := hk
    refine congrArg Host.Outcome.next (if_neg ?_)
    simpa using hne

theorem State.acksAddress_iff {s : State} {a : Byte} :
    s.acksAddress a = true ↔
      s.power = .running ∧ (a.toNat = 2 * s.link.address.toNat ∨ a.toNat = 2 * s.link.address.toNat + 1) := by
  have haddr : s.link.address = addressOf a ↔
      (a.toNat = 2 * s.link.address.toNat ∨ a.toNat = 2 * s.link.address.toNat + 1) := by
    have hshift : (addressOf a).toNat = a.toNat / 2 := by
      simp [addressOf, Nat.shiftRight_eq_div_pow]
      have := a.isLt
      omega
    rw [← BitVec.toNat_inj, hshift]
    omega
  rw [State.acksAddress, State.hears_iff, haddr]

/-- Settles O3: an unheard frame is passed by, and a wrong check byte is the one byte refused. -/
theorem unheardAndWrongFramesChangeNothing : Obligations.UnheardAndWrongFramesChangeNothing := by
  unfold Obligations.UnheardAndWrongFramesChangeNothing
  refine ⟨fun s a => State.acksAddress_iff, fun s i code f hf => ⟨exec_frame_held hf, fun hrun hk => ?_⟩⟩
  obtain ⟨take, hexec⟩ := exec_frame hf hk
  refine ⟨fun ha => ?_, fun ha hc hp hcheck => ⟨?_, ?_⟩⟩
  · rw [hexec, frameRow_unheard (by simp [State.hears, ha]), State.passedBy_running hrun]
  · rw [Link.acks_frame s.link hc hp, beq_false_of_ne hcheck]
  · rw [hexec, frameRow_badCheck (by simp [State.hears, ha, hrun]) hc hp hcheck]

/-! ### Rows of the link alone -/

theorem exec_frameDiscarded_unheard {s : State} {addr : BitVec 7} (h : s.hears addr = false) (bytes : List Byte)
    (ended : Bool) : exec (.frameDiscarded addr bytes ended) s = .next s.passedBy :=
  congrArg Host.Outcome.next (if_neg (by simp [h]))

/-- A discarded frame whose end has come leaves the receiver in IDLE (R167, R170). -/
theorem exec_frameDiscarded_ended {s : State} {addr : BitVec 7} {bytes : List Byte} (h : s.hears addr = true)
    (hd : discards bytes true = true) : exec (.frameDiscarded addr bytes true) s = .next s.linkDone := by
  refine congrArg Host.Outcome.next ((if_pos h).trans ?_)
  unfold discards at hd
  rw [← s.link.rx_receive] at hd
  dsimp only
  cases hr : (s.link.receive bytes).rx <;> simp [hr, Link.toIdle_receive, State.linkDone] at hd ⊢

/-- Before its end a refused frame leaves the receiver in DISCARD (R167). -/
theorem exec_frameDiscarded_open {s : State} {addr : BitVec 7} {bytes : List Byte} (h : s.hears addr = true)
    (hd : discards bytes false = true) :
    exec (.frameDiscarded addr bytes false) s = .next { s with link := { s.link.toIdle with rx := .discard } } := by
  refine congrArg Host.Outcome.next ((if_pos h).trans ?_)
  unfold discards at hd
  rw [← s.link.rx_receive] at hd
  dsimp only
  cases hr : (s.link.receive bytes).rx <;> simp [hr] at hd ⊢
  rw [Link.receive_of_discard hr]

theorem exec_linkTimeout {s : State} (hrun : s.power = .running) (x : Option Transfer) :
    exec (.linkTimeout x) s = .next s.linkDone := by
  refine congrArg Host.Outcome.next ((if_pos hrun).trans ?_)
  have hpassed : s.passedBy.link.toIdle = s.link.toIdle := by rw [State.passedBy_running hrun]; rfl
  cases x with
  | none => rfl
  | some x =>
    cases x with
    | write addr bs =>
      simp only [State.linkDuring, Link.timeout]
      split
      · rw [Link.toIdle_receive]; rfl
      · rw [hpassed]; rfl
    | read addr =>
      simp only [State.linkDuring, Link.timeout]
      split
      · rfl
      · rw [hpassed]; rfl

/-- Settles O4. -/
theorem discardAndTimeoutMoveTheReceiverAlone : Obligations.DiscardAndTimeoutMoveTheReceiverAlone := by
  unfold Obligations.DiscardAndTimeoutMoveTheReceiverAlone
  refine ⟨fun s addr bytes => ⟨fun h => ⟨exec_frameDiscarded_ended h, exec_frameDiscarded_open h⟩, fun hrun ha ended => ?_,
    fun hheld ended => ?_⟩, fun s x => ⟨fun hrun => exec_linkTimeout hrun x, fun hheld => ?_⟩⟩
  · rw [exec_frameDiscarded_unheard (by simp [State.hears, ha]), State.passedBy_running hrun]
  · rw [exec_frameDiscarded_unheard (by simp [State.hears, hheld]), State.passedBy_held hheld]
  · exact congrArg Host.Outcome.next (if_neg hheld)

theorem exec_selectorWrite_unheard {s : State} {addr : BitVec 7} (h : s.hears addr = false) (b : Byte) :
    exec (.selectorWrite addr b) s = .next s.passedBy :=
  congrArg Host.Outcome.next (if_neg (by simp [h]))

/-- A selector byte sets the selector (R172). -/
theorem exec_selectorWrite_selector {s : State} {addr : BitVec 7} (h : s.hears addr = true) (k : Client) :
    exec (.selectorWrite addr (0x80 + byte k)) s = .next { s with link := { s.link.toIdle with selector := k } } := by
  have hk := k.isLt
  have hb : (0x80 + byte k : Byte).toNat = 128 + k := by
    rw [BitVec.toNat_add, byte_client]
    simp only [BitVec.reduceToNat]
    omega
  have hsel : (Fin.ofNat 8 (128 + (k : Nat)) : Client) = k := by
    ext
    simp only [Fin.ofNat]
    omega
  refine congrArg Host.Outcome.next ((if_pos h).trans ?_)
  simp only [Link.receive, List.foldl_nil, Link.firstByte, hb, hsel]
  rw [if_neg (by omega), if_pos (by omega)]
  rfl

/-- Any other byte leaves the selector (R172). -/
theorem exec_selectorWrite_other {s : State} {addr : BitVec 7} (h : s.hears addr = true) {b : Byte}
    (hb : b.toNat < 0x80 ∨ 0x88 ≤ b.toNat) : exec (.selectorWrite addr b) s = .next s.linkDone := by
  refine congrArg Host.Outcome.next ((if_pos h).trans ?_)
  simp only [Link.receive, List.foldl_nil, Link.firstByte]
  by_cases hc : b.toNat < 8
  · rw [if_pos hc]; rfl
  · rw [if_neg hc, if_neg (by omega)]; rfl

/-- Settles O5. -/
theorem selectorWriteSetsTheSelector : Obligations.SelectorWriteSetsTheSelector := by
  unfold Obligations.SelectorWriteSetsTheSelector
  intro s addr
  refine ⟨fun hrun ha => ?_, fun hrun ha b => ?_, fun hheld b => ?_⟩
  · have hh : s.hears addr = true := State.hears_iff.mpr ⟨hrun, ha⟩
    refine ⟨exec_selectorWrite_selector hh, fun b => exec_selectorWrite_other hh, fun b x h1 h2 => ?_⟩
    have hfirst : ∀ l : Link, l.firstByte b = ({ l.toIdle with rx := .selector (Fin.ofNat 8 b.toNat) }, true) := by
      intro l
      rw [Link.firstByte, if_neg (by omega), if_pos ⟨h1, h2⟩]
    refine ⟨by simp only [Link.acks, Link.acks.go, hfirst]; rfl, exec_frameDiscarded_ended hh ?_⟩
    simp only [discards, Link.receive, List.foldl_cons, List.foldl_nil, hfirst]
    rfl
  · rw [exec_selectorWrite_unheard (by simp [State.hears, ha]), State.passedBy_running hrun]
  · rw [exec_selectorWrite_unheard (by simp [State.hears, hheld]), State.passedBy_held hheld]

/-- A read past the slot's bytes is filled with FFh (R173). -/
theorem State.readTransaction_heard {s : State} {addr : BitVec 7} (h : s.hears addr = true) {b : List Byte} (k : Nat)
    (hb : s.slotBytes s.link.selector = b) :
    s.readTransaction addr (b.length + k) = some (b ++ List.replicate k 0xFF) := by
  rw [State.readTransaction, if_pos h, hb, List.take_of_length_le (by omega), Nat.add_sub_cancel_left]

/-- Settles O6. -/
theorem readReturnsTheSelectedSlot : Obligations.ReadReturnsTheSelectedSlot := by
  unfold Obligations.ReadReturnsTheSelectedSlot
  intro s addr
  refine ⟨fun hrun ha k => ⟨fun x hx => ?_, fun hx => ?_⟩, fun h n => State.readTransaction_unheard ?_ n⟩
  · have hbytes : s.slotBytes s.link.selector = x.body ++ [crc8 x.body] := by rw [State.slotBytes, hx]
    have hread := State.readTransaction_heard (State.hears_iff.mpr ⟨hrun, ha⟩) k hbytes
    have hlen : (x.body ++ [crc8 x.body]).length = 7 + x.results.length := by simp [Response.body]; omega
    rw [hlen] at hread
    exact hread
  · have hbytes : s.slotBytes s.link.selector = [byte s.link.selector, 0x00, 0xFF, 0xFF, 0xFF, 0x00] ++
        [crc8 [byte s.link.selector, 0x00, 0xFF, 0xFF, 0xFF, 0x00]] := by rw [State.slotBytes, hx]
    exact State.readTransaction_heard (State.hears_iff.mpr ⟨hrun, ha⟩) k hbytes
  · rcases h with h | h <;> simp [State.hears, h]

/-! ### Acceptance (10.4) -/

/-- The frame as the link hands it on, from client `c`. -/
theorem frameRow_accept {s : State} {code : Byte} {f : Frame} {c : Client} {body : Body} (hh : s.hears f.addr = true)
    (hw : f.wf code = true) (hc : f.client = byte c) :
    frameRow code (accept body) f s =
      accept body { client := c, epoch := f.epoch, seq := f.seq, code := code, params := f.params } s.linkDone := by
  have hsender : Fin.ofNat 8 f.client.toNat = c := by rw [hc, byte_client]; simp
  rw [frameRow_taken hh hw, hsender]

/-- Settles O7. -/
theorem acceptanceStepsOneToFive : Obligations.AcceptanceStepsOneToFive := by
  unfold Obligations.AcceptanceStepsOneToFive
  intro s i code f c hf hwf hopen hh hc
  have hw : f.wf code = true := frame_wf_of_wf hf hwf
  obtain ⟨body, hexec⟩ := exec_command hf hwf hopen
  rw [hexec, frameRow_accept hh hw hc]
  refine ⟨fun hx => ?_, fun o ho => ⟨fun he => ?_, fun he hq => ?_, fun he hq hq' => ?_⟩⟩ <;> unfold accept <;>
    simp only [State.linkDone_session]
  · rw [hx]; rfl
  · rw [ho]; dsimp only; rw [if_pos he]; rfl
  · rw [ho]; dsimp only; rw [if_neg (by simp [he]), if_pos hq]; rfl
  · rw [ho]; dsimp only; rw [if_neg (by simp [he]), if_neg hq, if_pos hq']; rfl

/-- Settles O8. -/
theorem acceptanceStepsSixToEight : Obligations.AcceptanceStepsSixToEight := by
  unfold Obligations.AcceptanceStepsSixToEight
  intro s i code f c hf hwf hopen hin
  obtain ⟨body, hexec⟩ := exec_command hf hwf hopen
  obtain ⟨hh, hw, hc, he, hseq⟩ := hin
  obtain ⟨o, ho, hnext⟩ := Option.map_eq_some_iff.mp hseq
  have hne : f.seq ≠ o.lastSeq := by rw [← hnext]; simp
  have hconclude : ∀ st, s.linkDone.conclude
      { client := c, epoch := f.epoch, seq := f.seq, code := code, params := f.params } (.refuse st) =
      s.linkDone.withAnswer c (f.answer c code st []) := fun st => by
    simp [State.conclude, State.responseTo, Reply.refuse, State.withAnswer, Frame.answer, State.putSession, ho, he]
  have haccept : accept body { client := c, epoch := f.epoch, seq := f.seq, code := code, params := f.params } s.linkDone =
      (lookupCommand code).elim (s.linkDone.withAnswer c (f.answer c code .unknownCommand [])) fun row =>
        if f.params.length ≠ row.length then s.linkDone.withAnswer c (f.answer c code .badLength [])
        else if row.supervisor = true ∧ c ≠ 0 then s.linkDone.withAnswer c (f.answer c code .notPermitted [])
        else (body c f.params s.linkDone).1.conclude
          { client := c, epoch := f.epoch, seq := f.seq, code := code, params := f.params } (body c f.params s.linkDone).2 := by
    unfold accept
    simp only [State.linkDone_session, ho, hconclude]
    rw [if_neg (by simp [he]), if_neg hne, if_neg (by rw [hnext]; simp)]
    cases lookupCommand code <;> rfl
  simp only [State.Completes, hexec, frameRow_accept hh hw hc, haccept]
  refine ⟨fun hrow => ?_, fun row hrow => ⟨fun hlen => ?_, fun hlen hsup h0 => ?_⟩⟩ <;> rw [hrow, Option.elim]
  · rw [if_pos hlen]
  · rw [if_neg (by simp [hlen]), if_pos ⟨hsup, h0⟩]

/-! ### Device reset and start-up -/

theorem addressFor_eq (a1 a0 : Bool) : addressFor a1 a0 = BitVec.ofNat 7 (0x5A + 2 * a1.toNat + a0.toNat) := by
  cases a1 <;> cases a0 <;> rfl

/-- Settles O9. -/
theorem resetAndStartUp : Obligations.ResetAndStartUp := by
  unfold Obligations.ResetAndStartUp
  refine ⟨fun s => ⟨rfl, rfl⟩, fun s => ⟨fun h => ⟨?_, ?_⟩, fun h cause => ?_, fun a1 a0 h => ?_, fun a1 a0 h => ?_⟩⟩
  · refine congrArg Host.Outcome.next ((if_pos h).trans ?_)
    cases hv : s.pins.vdd <;> simp [hv, State.cleared]
  · refine congrArg Host.Outcome.next ((if_pos h).trans ?_)
    cases hv : s.pins.rstn <;> simp [hv, State.cleared]
  · exact congrArg Host.Outcome.next (if_neg h)
  · refine congrArg Host.Outcome.next ((if_pos h).trans ?_)
    rw [addressFor_eq]
    rfl
  · exact congrArg Host.Outcome.next (if_neg h)

/-- Settles O10. -/
theorem resetValues : Obligations.ResetValues := by
  unfold Obligations.ResetValues
  refine ⟨⟨rfl, rfl, rfl, rfl, rfl, rfl, rfl, rfl, rfl, rfl, fun i => ?_, fun o => ⟨?_, ?_⟩, fun ch => ?_, fun ch => ?_, fun c => ?_⟩,
    safetyLaw_iff_safe.mpr (safe_of_reset rfl rfl rfl), deadlineLaw_of_reset rfl rfl rfl rfl,
    sessionLaw_iff_manned.mpr (manned_of_reset rfl rfl), quotaLaw_of_reset rfl, pinLaw_of_reset rfl rfl rfl rfl⟩
  · simp [State.slot, State.reset, Slot.reset]
  · simp [State.output, State.reset, Output.reset, Config.defaultMaxTerm]
  · simp [State.reset]
  · simp [State.count, State.reset, CountChannel.reset]
  · have hreset : State.reset.fault ch = FaultChannel.reset := by simp [State.fault, State.reset]
    rw [hreset]
    decide
  · rw [State.session_of_reset rfl]
    rfl

end Sys2Proof.Machine
end

section
/-! SUPPORT. The commands that act on a lease (chapters 1, 4, 5 and 6): the order of their checks (R8), what an ENDED record
answers (R14), and what each of RELEASE, ACK_END, QUERY, REVOKE, RENEW, EXTEND, OFFER, ACCEPT, DECLINE and WITHDRAW does. -/

namespace Sys2Proof.Machine

/-! ### The checks of R8 and R109 -/

section
variable {c : Client} {sl g : Byte} {s : State} {i : SlotId} {l : Lease} {act : SlotId → Lease → State × Reply}
  {take : SlotId → Lease → Tick → Tick → State × Reply}

theorem forHolder_stale (hn : s.named sl g = none) : forHolder c sl g s act = (s, .refuse .staleHandle) := by
  simp [forHolder, hn]

theorem forHolder_other (hn : s.named sl g = some (i, l)) (hc : l.holder ≠ c) :
    forHolder c sl g s act = (s, .refuse .notPermitted) := by
  simp [forHolder, hn, hc]

theorem forHolder_own (hn : s.named sl g = some (i, l)) (hc : l.holder = c) : forHolder c sl g s act = act i l := by
  simp [forHolder, hn, hc]

theorem forReceiver_stale (hn : s.named sl g = none) : forReceiver c sl g s take = (s, .refuse .staleHandle) := by
  simp [forReceiver, hn]

theorem forReceiver_ended {ga : Option Tick} {why : EndReason} {at_ : Tick} {detail : Option FaultId}
    (hn : s.named sl g = some (i, l)) (hp : l.phase = .ended ga why at_ detail) :
    forReceiver c sl g s take = (s, .refuse .tooLate) := by
  simp [forReceiver, hn, hp]

theorem forReceiver_offered {ga d od : Tick} (hn : s.named sl g = some (i, l)) (hp : l.phase = .offered ga d c od) :
    forReceiver c sl g s take = take i l ga d := by
  simp [forReceiver, hn, hp]

theorem forReceiver_notOffered (hn : s.named sl g = some (i, l))
    (hp : l.phase.isWaiting = true ∨ (∃ ga d, l.phase = .live ga d) ∨ (∃ ga d r od, l.phase = .offered ga d r od ∧ r ≠ c)) :
    forReceiver c sl g s take = (s, .refuse .wrongState) := by
  obtain hw | ⟨ga, d, hp⟩ | ⟨ga, d, r, od, hp, hr⟩ := hp
  · cases hp : l.phase with
    | waiting w => simp [forReceiver, hn, hp]
    | _ => simp [hp, Phase.isWaiting] at hw
  · simp [forReceiver, hn, hp]
  · simp [forReceiver, hn, hp, hr]

end

/-! ### The commands with a handle -/

/-- The bodies of the commands that name a lease by its handle, by their codes (R181). -/
def leaseBody (code : Byte) : Body :=
  if code = 0x11 then releaseBody else if code = 0x12 then renewBody else if code = 0x13 then extendBody
  else if code = 0x14 then ackEndBody else if code = 0x15 then queryBody else if code = 0x20 then offerBody
  else if code = 0x21 then acceptBody else if code = 0x22 then declineBody else if code = 0x23 then withdrawBody
  else revokeBody

theorem exec_leaseCommand {i : Instr} {code : Byte} {f : Frame} {row : CommandRow} (h : i.frame? = some (code, f))
    (hw : i.wf = true) (hrow : lookupCommand code = some row)
    (hcode : code ∈ [0x11, 0x12, 0x13, 0x14, 0x15, 0x20, 0x21, 0x22, 0x23, 0x37]) (s : State) :
    exec i s = .next (frameRow code (accept (leaseBody code)) f s) := by
  cases i with
  | unknownCommand g k =>
    obtain ⟨rfl, rfl⟩ : k = code ∧ g = f := by simpa [Instr.frame?] using h
    simp only [Instr.wf, Bool.and_eq_true, hrow] at hw
    simp at hw
  | _ =>
    first
    | (obtain ⟨rfl, rfl⟩ := Prod.mk.inj (Option.some.inj h); first | exact absurd hcode (by decide) | rfl)
    | exact absurd h (by simp [Instr.frame?])

section
variable {c : Client} {code sl g : Byte} {rest : List Byte} {s : State} {row : CommandRow} {j : SlotId} {l : Lease}

/-- The parameters that follow the handle, for the commands with none. -/
theorem params_of_handleOnly (hrow : lookupCommand code = some row) (hlen : (sl :: g :: rest).length = row.length)
    (hcode : code ∈ [0x11, 0x14, 0x15, 0x21, 0x22, 0x23, 0x37]) : rest = [] := by
  simp only [List.mem_cons, List.not_mem_nil, or_false] at hcode
  have h2 : row.length = 2 := by
    rcases hcode with rfl | rfl | rfl | rfl | rfl | rfl | rfl <;> (obtain rfl := Option.some.inj hrow; rfl)
  rw [h2] at hlen
  exact List.length_eq_zero_iff.mp (by simpa using hlen)

theorem params_of_renew (hrow : lookupCommand 0x12 = some row) (hlen : (sl :: g :: rest).length = row.length) :
    ∃ t0 t1 t2, rest = [t0, t1, t2] := by
  obtain rfl := Option.some.inj hrow
  exact List.length_eq_three.mp (Nat.add_right_cancel (m := 2) hlen)

theorem params_of_extend (hrow : lookupCommand 0x13 = some row) (hlen : (sl :: g :: rest).length = row.length) :
    ∃ a0 a1, rest = [a0, a1] := by
  obtain rfl := Option.some.inj hrow
  exact List.length_eq_two.mp (Nat.add_right_cancel (m := 2) hlen)

theorem params_of_offer (hrow : lookupCommand 0x20 = some row) (hlen : (sl :: g :: rest).length = row.length) :
    ∃ b t0 t1, rest = [b, t0, t1] := by
  obtain rfl := Option.some.inj hrow
  exact List.length_eq_three.mp (Nat.add_right_cancel (m := 2) hlen)

/-- The six commands open to the holder alone: what they do to a lease they may act on (R17). -/
theorem leaseBody_forHolder (hrow : lookupCommand code = some row) (hlen : (sl :: g :: rest).length = row.length)
    (hcode : code ∈ [0x11, 0x12, 0x13, 0x14, 0x20, 0x23]) :
    ∃ act : State → SlotId → Lease → State × Reply,
      (∀ s, leaseBody code c (sl :: g :: rest) s = forHolder c sl g s (act s)) ∧
      ∀ s i l ga why at_ detail, code ≠ 0x14 → l.phase = .ended ga why at_ detail → act s i l = (s, .refuse .tooLate) := by
  simp only [List.mem_cons, List.not_mem_nil, or_false] at hcode
  rcases hcode with rfl | rfl | rfl | rfl | rfl | rfl
  · obtain rfl := params_of_handleOnly hrow hlen (by decide)
    exact ⟨_, fun _ => rfl, fun s i l ga why at_ detail _ hp => by simp [hp]⟩
  · obtain ⟨t0, t1, t2, rfl⟩ := params_of_renew hrow hlen
    exact ⟨_, fun _ => rfl, fun s i l ga why at_ detail _ hp => by simp [hp]⟩
  · obtain ⟨a0, a1, rfl⟩ := params_of_extend hrow hlen
    exact ⟨_, fun _ => rfl, fun s i l ga why at_ detail _ hp => by simp [hp]⟩
  · obtain rfl := params_of_handleOnly hrow hlen (by decide)
    exact ⟨_, fun _ => rfl, fun s i l ga why at_ detail h _ => absurd rfl h⟩
  · obtain ⟨b, t0, t1, rfl⟩ := params_of_offer hrow hlen
    exact ⟨_, fun _ => rfl, fun s i l ga why at_ detail _ hp => by simp [hp]⟩
  · obtain rfl := params_of_handleOnly hrow hlen (by decide)
    exact ⟨_, fun _ => rfl, fun s i l ga why at_ detail _ hp => by simp [hp]⟩

/-- ACCEPT and DECLINE share the checks of R109. -/
theorem leaseBody_forReceiver (hrow : lookupCommand code = some row) (hlen : (sl :: g :: rest).length = row.length)
    (hcode : code ∈ [0x21, 0x22]) :
    ∃ act : State → SlotId → Lease → Tick → Tick → State × Reply,
      ∀ s, leaseBody code c (sl :: g :: rest) s = forReceiver c sl g s (act s) := by
  obtain rfl : rest = [] := params_of_handleOnly hrow hlen (by
    simp only [List.mem_cons, List.not_mem_nil, or_false] at hcode ⊢; tauto)
  simp only [List.mem_cons, List.not_mem_nil, or_false] at hcode
  rcases hcode with rfl | rfl <;> exact ⟨_, fun _ => rfl⟩

theorem leaseBody_stale (hrow : lookupCommand code = some row) (hlen : (sl :: g :: rest).length = row.length)
    (hcode : code ∈ [0x11, 0x12, 0x13, 0x14, 0x15, 0x20, 0x21, 0x22, 0x23, 0x37]) (hn : s.named sl g = none) :
    leaseBody code c (sl :: g :: rest) s = (s, .refuse .staleHandle) := by
  by_cases hholder : code ∈ [0x11, 0x12, 0x13, 0x14, 0x20, 0x23]
  · obtain ⟨act, hact, -⟩ := leaseBody_forHolder (c := c) hrow hlen hholder
    rw [hact, forHolder_stale hn]
  by_cases hreceiver : code ∈ [0x21, 0x22]
  · obtain ⟨act, hact⟩ := leaseBody_forReceiver (c := c) hrow hlen hreceiver
    rw [hact, forReceiver_stale hn]
  obtain rfl | rfl : code = 0x15 ∨ code = 0x37 := by
    simp only [List.mem_cons, List.not_mem_nil, or_false] at hcode hholder hreceiver; tauto
  · obtain rfl := params_of_handleOnly hrow hlen (by decide)
    show queryBody c [sl, g] s = _
    simp [queryBody, hn]
  · obtain rfl := params_of_handleOnly hrow hlen (by decide)
    show revokeBody c [sl, g] s = _
    simp [revokeBody, hn]

end

/-- Settles O23: the handle's check, and then the holder's. -/
theorem leaseCommandsCheckHandleThenCaller : Obligations.LeaseCommandsCheckHandleThenCaller := by
  unfold Obligations.LeaseCommandsCheckHandleThenCaller
  refine ⟨fun s sl g i l => State.named_eq_some, fun s i code row f c sl g rest hf hw hrow hin hp hlen hsup => ⟨?_, ?_⟩⟩
  · intro hcode hn
    have hlen' : (sl :: g :: rest).length = row.length := hp ▸ hlen
    exact completes_of_body_keeps hin (exec_leaseCommand hf hw hrow hcode s) hrow hlen hsup
      (hp ▸ leaseBody_stale hrow hlen' hcode (s := s.linkDone) hn)
  · intro hcode j l hn hholder
    have hlen' : (sl :: g :: rest).length = row.length := hp ▸ hlen
    obtain ⟨act, hact, -⟩ := leaseBody_forHolder (c := c) hrow hlen' hcode
    have hcode' : code ∈ [0x11, 0x12, 0x13, 0x14, 0x15, 0x20, 0x21, 0x22, 0x23, 0x37] := by
      simp only [List.mem_cons, List.not_mem_nil, or_false] at hcode ⊢; tauto
    exact completes_of_body_keeps hin (exec_leaseCommand hf hw hrow hcode' s) hrow hlen hsup
      (by rw [hp, hact]; exact forHolder_other (s := s.linkDone) hn hholder)

/-- Settles O24: what each command's checks answer on an ENDED record. -/
theorem endedRecordOutlastsLateCommands : Obligations.EndedRecordOutlastsLateCommands := by
  unfold Obligations.EndedRecordOutlastsLateCommands
  intro s i code row f c sl g rest j l ga why at_ detail hf hw hrow hin hp hlen hsup hn hphase
  have hlen' : (sl :: g :: rest).length = row.length := hp ▸ hlen
  have hkeeps : ∀ st, code ∈ [0x11, 0x12, 0x13, 0x14, 0x15, 0x20, 0x21, 0x22, 0x23, 0x37] →
      leaseBody code c (sl :: g :: rest) s.linkDone = (s.linkDone, .refuse st) → s.Completes i f c code s.linkDone st [] :=
    fun st hcode hbody => completes_of_body_keeps hin (exec_leaseCommand hf hw hrow hcode s) hrow hlen hsup (hp ▸ hbody)
  refine ⟨fun hcode hholder => ?_, fun hcode => ?_, fun hcode => ?_⟩
  · have hmem : code ∈ [0x11, 0x12, 0x13, 0x14, 0x20, 0x23] ∧ code ≠ 0x14 := by
      simp only [List.mem_cons, List.not_mem_nil, or_false] at hcode ⊢
      exact ⟨by tauto, by rcases hcode with rfl | rfl | rfl | rfl | rfl <;> decide⟩
    obtain ⟨act, hact, hlate⟩ := leaseBody_forHolder (c := c) hrow hlen' hmem.1
    refine hkeeps _ (by simp only [List.mem_cons, List.not_mem_nil, or_false] at hcode ⊢; tauto) ?_
    rw [hact, forHolder_own (s := s.linkDone) hn hholder, hlate _ _ _ _ _ _ _ hmem.2 hphase]
  · obtain ⟨act, hact⟩ := leaseBody_forReceiver (c := c) hrow hlen' hcode
    refine hkeeps _ (by simp only [List.mem_cons, List.not_mem_nil, or_false] at hcode ⊢; tauto) ?_
    rw [hact, forReceiver_ended (s := s.linkDone) hn hphase]
  · subst hcode
    obtain rfl := params_of_handleOnly hrow hlen' (by decide)
    refine hkeeps _ (by decide) ?_
    have hn' : s.linkDone.named sl g = some (j, l) := hn
    show revokeBody c [sl, g] s.linkDone = _
    simp [revokeBody, hn', hphase]

/-! ### Commands whose bodies keep the sessions open -/

/-- A command whose body leaves its session OPEN and its epoch alone completes with the body's state and answer. -/
theorem completes_of_keeps {i : Instr} {body : Body} {f : Frame} {c : Client} {code : Byte} {s m : State} {row : CommandRow}
    {st : Status} {rs : List Byte} (hin : s.InSequence f code c)
    (hexec : exec i s = .next (frameRow code (accept body) f s)) (hrow : lookupCommand code = some row)
    (hlen : f.params.length = row.length) (hsup : row.supervisor = true → c = 0)
    (hbody : body c f.params s.linkDone = (m, { status := st, results := rs })) (hm : Keeps s.linkDone m) :
    s.Completes i f c code m st rs := by
  have hopen : (m.session c).opened.isSome = true := by rw [hm.opened]; exact hin.isOpen
  rw [State.Completes, hexec, command_result hin hrow hlen hsup hbody hopen (hm.epoch c)]

/-- The handle of a named lease reads back as it was sent (R7). -/
theorem State.named_facts {s : State} {sl g : Byte} {i : SlotId} {l : Lease} (h : s.named sl g = some (i, l)) :
    sl = byte i ∧ s.leaseAt i = some l ∧ (s.slot i).generation = g ∧ s.handleOf i = ⟨i, g⟩ := by
  obtain ⟨hsl, hl, hg, -⟩ := State.named_eq_some.mp h
  exact ⟨hsl, hl, hg, by rw [State.handleOf, hg]⟩

/-- An outcome set and noticed for an OPEN session, in one update (R114, R116). -/
theorem notify_setOutcome {s : State} {c : Client} (h : Handle) (o : Outcome) (k : Notice) (hc : s.isOpen c = true) :
    (s.setOutcome c h o).notify c k = State.updateAtn { s with
      sessions := s.sessions.set c
        { s.session c with notices := (s.session c).notices ||| k.bit, outcome := some (h, o) } } := by
  have hput : (s.setOutcome c h o).session c = { s.session c with outcome := some (h, o) } := by
    simp [State.setOutcome]
  have hset : ∀ (x y : Session), (s.sessions.set c x).set c y = s.sessions.set c y := fun x y => Vector.set_set _ _
  rw [State.notify, State.isOpen_setOutcome, if_pos hc, hput]
  simp only [State.setOutcome, State.putSession, hset]

/-- A notice to an OPEN session, in one update (R150). -/
theorem notify_of_open {s : State} {c : Client} (k : Notice) (hc : s.isOpen c = true) :
    s.notify c k = State.updateAtn { s with
      sessions := s.sessions.set c { s.session c with notices := (s.session c).notices ||| k.bit } } := if_pos hc

/-- An update of one lease, and its new slot. -/
theorem putLease_named {s : State} {sl g : Byte} {i : SlotId} {l : Lease} (h : s.named sl g = some (i, l)) (x : Option Lease) :
    s.putLease i x = { s with slots := s.slots.set i ⟨g, x⟩ } := by
  rw [State.putLease, (State.named_facts h).2.2.1, State.putSlot]

/-! ### RELEASE, ACK_END, QUERY and REVOKE -/

section
variable {c : Client} {sl g : Byte} {s : State} {i : SlotId} {l : Lease}

theorem releaseBody_eq (hn : s.named sl g = some (i, l)) (hc : l.holder = c) : releaseBody c [sl, g] s =
    match l.phase with
    | .waiting _ => ((s.freeSlot i).review, .ok [])
    | .live _ _ => ((s.freeSlot i).review, .ok [])
    | .offered _ _ _ _ => (((s.freeSlot i).setOutcome c (s.handleOf i) .voided).review, .ok [])
    | .ended _ _ _ _ => (s, .refuse .tooLate) :=
  (forHolder_own hn hc).trans (by cases l.phase <;> rfl)

end

/-- Settles O25. -/
theorem releaseFreesTheSlot : Obligations.ReleaseFreesTheSlot := by
  unfold Obligations.ReleaseFreesTheSlot
  intro s f c sl g i l hin hp hn hc
  have hcomplete : ∀ {m : State}, releaseBody c [sl, g] s.linkDone = (m, .ok []) → Keeps s.linkDone m →
      s.Completes (.release f) f c 0x11 m .ok [] := fun hbody hm =>
    completes_of_keeps hin rfl rfl (by rw [hp]; rfl) nofun (hp ▸ hbody) hm
  have hbody := releaseBody_eq (s := s.linkDone) hn hc
  have hfree : Keeps s.linkDone (s.linkDone.freeSlot i) := (freeSlot_spares _ i).toKeeps
  refine ⟨fun ga d hphase => ?_, fun w hphase => ?_, fun ga d r od hphase => ?_⟩ <;> rw [hphase] at hbody
  · exact hcomplete hbody (hfree.trans (review_spares _).toKeeps)
  · exact hcomplete hbody (hfree.trans (review_spares _).toKeeps)
  · have hhandle : s.linkDone.handleOf i = ⟨i, g⟩ := (State.named_facts (s := s.linkDone) hn).2.2.2
    rw [hhandle] at hbody
    exact hcomplete hbody (hfree.trans ((setOutcome_spares _ c _ _).trans (review_spares _)).toKeeps)

/-- Settles O28. -/
theorem ackEndFreesTheRecord : Obligations.AckEndFreesTheRecord := by
  unfold Obligations.AckEndFreesTheRecord
  intro s f c sl g i l hin hp hn hc
  have hn' : s.linkDone.named sl g = some (i, l) := hn
  have hcomplete : ∀ {m : State} {st : Status} {rs : List Byte}, ackEndBody c [sl, g] s.linkDone = (m, ⟨st, rs⟩) →
      m.sessions = s.sessions → s.Completes (.ackEnd f) f c 0x14 m st rs := fun hbody hm =>
    completes_of_body hin rfl rfl (by rw [hp]; rfl) nofun (hp ▸ hbody) hm
  refine ⟨fun ga why at_ detail hphase => hcomplete ?_ rfl, fun hphase => hcomplete ?_ rfl⟩ <;>
    rw [show ackEndBody c [sl, g] s.linkDone = _ from forHolder_own hn' hc]
  · rw [hphase]
    exact congrArg₂ Prod.mk (putLease_named hn' none) (by cases detail <;> rfl)
  · cases hl : l.phase with
    | ended ga why at_ detail => simp [hl, Phase.isWaiting, Phase.isLive] at hphase
    | _ => rfl

theorem Lease.mayQuery_iff {l : Lease} {c : Client} :
    l.mayQuery c = true ↔ c = l.holder ∨ c = 0 ∨ ∃ ga d od, l.phase = .offered ga d c od := by
  have hholder : l.holder = c ↔ c = l.holder := eq_comm
  cases hp : l.phase with
  | offered ga d r od => simp [Lease.mayQuery, hp, hholder, or_assoc]
  | _ => simp [Lease.mayQuery, hp, hholder]

/-- Settles O29: the caller's check, and the record's bytes in each of the four states. -/
theorem queryReportsTheRecord : Obligations.QueryReportsTheRecord := by
  unfold Obligations.QueryReportsTheRecord
  intro s f c sl g i l hin hp hn
  dsimp only
  have hn' : s.linkDone.named sl g = some (i, l) := hn
  obtain ⟨rfl, -, hg, -⟩ := State.named_facts hn
  have hkeeps : ∀ {st : Status} {rs : List Byte}, queryBody c [byte i, g] s.linkDone = (s.linkDone, ⟨st, rs⟩) →
      s.Completes (.query f) f c 0x15 s.linkDone st rs := fun hbody =>
    completes_of_body_keeps hin rfl rfl (by rw [hp]; rfl) nofun (hp ▸ hbody)
  have hbody : queryBody c [byte i, g] s.linkDone =
      if l.mayQuery c then (s.linkDone, .ok (s.linkDone.queryBytes i l)) else (s.linkDone, .refuse .notPermitted) := by
    simp [queryBody, hn']
  have hgen : (s.linkDone.slot i).generation = g := hg
  refine ⟨fun hmine => hkeeps ?_, fun hmine => ?_⟩
  · rw [hbody, if_neg fun h => hmine (Lease.mayQuery_iff.mp h)]; rfl
  · have hreport : ∀ {rs : List Byte}, s.linkDone.queryBytes i l = rs → s.Completes (.query f) f c 0x15 s.linkDone .ok rs :=
      fun h => hkeeps (by rw [hbody, if_pos (Lease.mayQuery_iff.mpr hmine), h]; rfl)
    refine ⟨fun w hphase => hreport ?_, fun ga d hphase => hreport ?_, fun ga d r od hphase => hreport ?_,
      fun ga why at_ detail hphase => hreport ?_⟩
    all_goals rw [State.queryBytes, hphase, hgen]
    · cases l.count <;> simp [phaseBytes, Phase.code, tickBytes, absent, countBytes, State.queuePosition]
    · cases l.count <;> simp [phaseBytes, Phase.code, tickBytes, absent, countBytes]
    · cases l.count <;> simp [phaseBytes, Phase.code, tickBytes, absent, countBytes]
    · cases ga <;> cases detail <;> cases l.count <;> simp [phaseBytes, Phase.code, tickBytes, absent, countBytes, detailByte]

/-- Settles O30. -/
theorem revokeEndsTheLease : Obligations.RevokeEndsTheLease := by
  unfold Obligations.RevokeEndsTheLease
  intro s f sl g i l hin hp hn hphase
  have hn' : s.linkDone.named sl g = some (i, l) := hn
  have hbody : revokeBody 0 [sl, g] s.linkDone = ((s.linkDone.endLease i .revoked none).review, .ok []) := by
    cases hl : l.phase with
    | ended ga why at_ detail => simp [hl, Phase.isWaiting, Phase.isLive] at hphase
    | _ => simp [revokeBody, hn', hl]
  exact completes_of_keeps hin rfl rfl (by rw [hp]; rfl) (fun _ => rfl) (hp ▸ hbody)
    ((endLease_spares _ i _ _).trans (review_spares _)).toKeeps

end Sys2Proof.Machine
end

section
/-! SUPPORT. RENEW, EXTEND and the transfer of a lease (4.5, 5.5 and chapter 6): OFFER, ACCEPT, DECLINE and WITHDRAW. -/

namespace Sys2Proof.Machine

/-! ### Parameter bytes -/

@[simp] theorem toClient_byte (c : Client) : toClient (byte c) = some c := by
  simp only [toClient, byte_client, c.isLt, dif_pos]

theorem toClient_eq_none {b : Byte} (h : 8 ≤ b.toNat) : toClient b = none := dif_neg (by omega)

/-! ### RENEW (R86, R87) -/

theorem State.le_minMaxTerm {s : State} {S : OutputSet} {n : Nat} :
    n ≤ s.minMaxTerm S ↔ n ≤ Config.maxTicks ∧ ∀ o : OutputId, S.getLsbD o = true → n ≤ (s.output o).maxTerm := by
  have hfold : ∀ (L : List OutputId) (m : Nat), n ≤ L.foldl (fun acc o => min acc (s.output o).maxTerm) m ↔
      n ≤ m ∧ ∀ o ∈ L, n ≤ (s.output o).maxTerm := by
    intro L
    induction L with
    | nil => simp
    | cons o L ih => simp [ih, and_assoc]
  simp only [State.minMaxTerm, hfold, mem_members]

/-- A renewal that passes its fourth check, in one update. -/
theorem renewLive_of_fit {s : State} {i : SlotId} {l : Lease} {n : Nat} {phase : Tick → Phase} (h1 : 1 ≤ n)
    (hn : n ≤ s.minMaxTerm l.outputs) : renewLive i l n phase s =
      ({ s with
         slots := s.slots.set i ⟨(s.slot i).generation, some { l with term := n, phase := phase (s.after n) }⟩
         expiry := insertEntry s.clock ⟨s.after n, .lease i⟩ (removeEntry (.lease i) s.expiry) },
       .ok (tickBytes (s.after n))) :=
  if_pos ⟨h1, hn⟩

theorem renewLive_of_unfit {s : State} {i : SlotId} {l : Lease} {n : Nat} {phase : Tick → Phase}
    (h : n = 0 ∨ s.minMaxTerm l.outputs < n) : renewLive i l n phase s = (s, .refuse .badParameter) :=
  if_neg (by omega)

/-- RENEW of a live lease keeps its phase but for the deadline. -/
theorem renewBody_live {c : Client} {sl g t0 t1 t2 : Byte} {s : State} {i : SlotId} {l : Lease}
    (hn : s.named sl g = some (i, l)) (hc : l.holder = c) (hlive : l.phase.isLive = true) :
    renewBody c [sl, g, t0, t1, t2] s = renewLive i l (u24 t0 t1 t2) l.phase.withDeadline s := by
  rw [show renewBody c [sl, g, t0, t1, t2] s = _ from forHolder_own hn hc]
  cases hp : l.phase with
  | live ga d => rfl
  | offered ga d r od => rfl
  | _ => simp [hp, Phase.isLive] at hlive

/-- Settles O41. -/
theorem renewCountsFromNow : Obligations.RenewCountsFromNow := by
  unfold Obligations.RenewCountsFromNow
  intro s f c sl g t0 t1 t2 i l hin hp hn hc hset hne
  dsimp only
  have hn' : s.linkDone.named sl g = some (i, l) := hn
  have hcomplete : ∀ {m : State} {st : Status} {rs : List Byte},
      renewBody c [sl, g, t0, t1, t2] s.linkDone = (m, ⟨st, rs⟩) → m.sessions = s.sessions →
      s.Completes (.renew f) f c 0x12 m st rs := fun hbody hm =>
    completes_of_body hin rfl rfl (by rw [hp]; rfl) nofun (hp ▸ hbody) hm
  refine ⟨fun w hphase => hcomplete ?_ rfl, fun hlive hbad => hcomplete ?_ rfl, fun hlive h1 hfit => hcomplete ?_ rfl⟩
  · rw [show renewBody c [sl, g, t0, t1, t2] s.linkDone = _ from forHolder_own hn' hc, hphase]
    rfl
  · rw [renewBody_live hn' hc hlive]
    refine renewLive_of_unfit (hbad.imp id fun ⟨o, ho, hlt⟩ => ?_)
    by_contra hle
    exact absurd ((State.le_minMaxTerm.mp (Nat.le_of_not_lt hle)).2 o ho) (Nat.not_le.mpr hlt)
  · obtain ⟨o, ho⟩ := outputSet_ne_zero.mp hne
    have hmax : u24 t0 t1 t2 ≤ s.linkDone.minMaxTerm l.outputs :=
      State.le_minMaxTerm.mpr ⟨(hfit o ho).trans (hset.1 o).1, hfit⟩
    rw [renewBody_live hn' hc hlive, renewLive_of_fit (show 1 ≤ u24 t0 t1 t2 from h1) hmax, (State.named_facts hn').2.2.1]
    rfl

/-! ### EXTEND (R101) -/

theorem extendBody_live {c : Client} {sl g a0 a1 : Byte} {s : State} {i : SlotId} {l : Lease}
    (hn : s.named sl g = some (i, l)) (hc : l.holder = c) (hlive : l.phase.isLive = true) :
    extendBody c [sl, g, a0, a1] s = extendBody.extendLive i l (u16 a0 a1) s := by
  rw [show extendBody c [sl, g, a0, a1] s = _ from forHolder_own hn hc]
  cases hp : l.phase with
  | live ga d => rfl
  | offered ga d r od => rfl
  | _ => simp [hp, Phase.isLive] at hlive

/-- Settles O45. -/
theorem extendRaisesTheBudget : Obligations.ExtendRaisesTheBudget := by
  unfold Obligations.ExtendRaisesTheBudget
  intro s f c sl g a0 a1 i l hin hp hn hc
  dsimp only
  have hn' : s.linkDone.named sl g = some (i, l) := hn
  have hcomplete : ∀ {m : State} {st : Status} {rs : List Byte},
      extendBody c [sl, g, a0, a1] s.linkDone = (m, ⟨st, rs⟩) → m.sessions = s.sessions →
      s.Completes (.extend f) f c 0x13 m st rs := fun hbody hm =>
    completes_of_body hin rfl rfl (by rw [hp]; rfl) nofun (hp ▸ hbody) hm
  refine ⟨fun w hphase => hcomplete ?_ rfl, fun hlive => ⟨fun hbad => hcomplete ?_ rfl, fun k hk h1 hmax => hcomplete ?_ rfl⟩⟩
  · rw [show extendBody c [sl, g, a0, a1] s.linkDone = _ from forHolder_own hn' hc, hphase]
    rfl
  · rw [extendBody_live hn' hc hlive, extendBody.extendLive]
    cases hk : l.count with
    | none => rfl
    | some k =>
      refine if_neg fun ⟨h1, hle⟩ => ?_
      obtain h | h | ⟨k', h, hlt⟩ := hbad
      · simp [hk] at h
      · simp only [u16] at h1; omega
      · obtain rfl := Option.some.inj (hk.symm.trans h)
        simp only [u16, Config.maxBudget] at hle; omega
  · rw [extendBody_live hn' hc hlive, extendBody.extendLive, hk]
    exact (if_pos ⟨h1, hmax⟩).trans (by rw [putLease_named hn']; rfl)

/-! ### OFFER (R107) -/

/-- OFFER of a LIVE lease: its fourth and fifth checks and the offer (R107). -/
theorem offerBody_live {c : Client} {sl g b t0 t1 : Byte} {s : State} {i : SlotId} {l : Lease} {ga d : Tick}
    (hn : s.named sl g = some (i, l)) (hc : l.holder = c) (hp : l.phase = .live ga d) :
    offerBody c [sl, g, b, t0, t1] s = (toClient b).elim (s, .refuse .badParameter) fun r =>
      if s.isOpen r = true ∧ r ≠ c ∧ 1 ≤ u16 t0 t1 ∧ u16 t0 t1 ≤ Config.maxOfferTime then
        (((s.putLease i (some { l with phase := .offered ga d r (s.after (u16 t0 t1)) })).schedule (.offer i)
          (u16 t0 t1)).notify r .offerIn, .ok (tickBytes (s.after (u16 t0 t1))))
      else (s, .refuse .badParameter) := by
  rw [show offerBody c [sl, g, b, t0, t1] s = _ from forHolder_own hn hc, hp]
  cases toClient b <;> rfl

/-- Settles O46. -/
theorem offerMakesTheLeaseOffered : Obligations.OfferMakesTheLeaseOffered := by
  unfold Obligations.OfferMakesTheLeaseOffered
  intro s f c sl g b t0 t1 i l hin hp hn hc
  dsimp only
  have hn' : s.linkDone.named sl g = some (i, l) := hn
  have hcomplete : ∀ {m : State} {st : Status} {rs : List Byte},
      offerBody c [sl, g, b, t0, t1] s.linkDone = (m, ⟨st, rs⟩) → Keeps s.linkDone m →
      s.Completes (.offer f) f c 0x20 m st rs := fun hbody hm =>
    completes_of_keeps hin rfl rfl (by rw [hp]; rfl) nofun (hp ▸ hbody) hm
  refine ⟨fun hphase => hcomplete ?_ (.refl _), fun ga d hphase => ⟨fun hbad => hcomplete ?_ (.refl _), ?_⟩⟩
  · rw [show offerBody c [sl, g, b, t0, t1] s.linkDone = _ from forHolder_own hn' hc]
    cases hl : l.phase <;> simp [hl, Phase.isWaiting, Phase.offerDeadline] at hphase <;> rfl
  · rw [offerBody_live hn' hc hphase]
    cases hr : toClient b with
    | none => rfl
    | some r =>
      refine if_neg fun ⟨hopen, hrc, h1, hmax⟩ => ?_
      simp only [u16, Config.maxOfferTime] at h1 hmax
      obtain h8 | ⟨r', rfl, hr'⟩ | h0 | hlt := hbad
      · simp [toClient_eq_none h8] at hr
      · obtain rfl : r' = r := by simpa using hr
        obtain hclosed | heq := hr'
        · exact absurd (hclosed.symm.trans hopen) Bool.false_ne_true
        · exact hrc heq
      · omega
      · omega
  · rintro r rfl hopen hrc h1 hmax
    have hbody := offerBody_live (b := byte r) (t0 := t0) (t1 := t1) hn' hc hphase
    rw [toClient_byte, Option.elim, if_pos ⟨hopen, hrc, h1, hmax⟩] at hbody
    have hdone := hcomplete hbody
      ((putLease_spares _ _ _).trans ((schedule_spares _ _ _).trans (notify_spares _ _ _))).toKeeps
    rw [putLease_named hn', notify_of_open] at hdone
    · exact hdone
    · exact hopen

/-! ### ACCEPT, DECLINE and WITHDRAW (R109 to R112) -/

/-- An offer resolved with its lease back at the giver, in one update. -/
theorem resolveOffer_named {s : State} {sl g : Byte} {i : SlotId} {l : Lease} {ga d od : Tick} {r : Client}
    (hn : s.named sl g = some (i, l)) (hp : l.phase = .offered ga d r od) (o : Outcome) :
    s.resolveOffer i o = State.setOutcome { s with
      slots := s.slots.set i ⟨g, some { l with phase := .live ga d }⟩
      expiry := removeEntry (.offer i) s.expiry } l.holder ⟨i, g⟩ o := by
  obtain ⟨-, hl, hg, hhandle⟩ := State.named_facts hn
  rw [resolveOffer_of_offered hl hp, hhandle, ← hg]
  rfl

/-- Settles O47. -/
theorem acceptMovesTheLease : Obligations.AcceptMovesTheLease := by
  unfold Obligations.AcceptMovesTheLease
  intro s f c sl g i l hin hp hn hquota
  have hn' : s.linkDone.named sl g = some (i, l) := hn
  obtain ⟨-, -, hg, hhandle⟩ := State.named_facts hn'
  have hcomplete : ∀ {m : State} {st : Status} {rs : List Byte},
      acceptBody c [sl, g] s.linkDone = (m, ⟨st, rs⟩) → Keeps s.linkDone m → s.Completes (.accept f) f c 0x21 m st rs :=
    fun hbody hm => completes_of_keeps hin rfl rfl (by rw [hp]; rfl) nofun (hp ▸ hbody) hm
  refine ⟨fun hphase => hcomplete (forReceiver_notOffered hn' hphase) (.refl _), fun ga d od hphase => ⟨fun hfull => ?_, ?_⟩⟩
  · refine hcomplete ?_ (.refl _)
    rw [show acceptBody c [sl, g] s.linkDone = _ from forReceiver_offered hn' hphase]
    exact if_pos hfull.ge
  · intro hroom hopen
    have hbody : acceptBody c [sl, g] s.linkDone = _ := forReceiver_offered hn' hphase
    rw [if_neg (show ¬(s.linkDone.session c).quota ≤ s.linkDone.occupied c from
      fun hle => hroom (Nat.le_antisymm (hquota c) hle))] at hbody
    have hdone := hcomplete hbody ((unschedule_spares _ _).trans ((putLease_spares _ _ _).trans
      ((setOutcome_spares _ _ _ _).trans (notify_spares _ _ _)))).toKeeps
    rw [notify_setOutcome, hhandle] at hdone
    · subst hg; exact hdone
    · exact hopen

/-- Settles O48. -/
theorem declineAndWithdrawReturnTheLease : Obligations.DeclineAndWithdrawReturnTheLease := by
  unfold Obligations.DeclineAndWithdrawReturnTheLease
  intro s f c sl g i l hp hn
  dsimp only
  have hn' : s.linkDone.named sl g = some (i, l) := hn
  refine ⟨fun hin => ⟨fun hphase => ?_, fun ga d od hphase hopen => ?_⟩,
    fun hin hc => ⟨fun hphase => ?_, fun ga d r od hphase => ?_⟩⟩
  · exact completes_of_body_keeps hin rfl rfl (by rw [hp]; rfl) nofun (hp ▸ forReceiver_notOffered hn' hphase)
  · have hbody : declineBody c [sl, g] s.linkDone = _ := forReceiver_offered hn' hphase
    have hdone := completes_of_keeps (i := .decline f) hin rfl rfl (by rw [hp]; rfl) nofun ((congrArg (declineBody c · s.linkDone) hp).trans hbody)
      ((resolveOffer_spares _ i .declined).trans (notify_spares _ l.holder .offerOut)).toKeeps
    rw [resolveOffer_named hn' hphase, notify_setOutcome] at hdone
    · exact hdone
    · exact hopen
  · refine completes_of_body_keeps hin rfl rfl (by rw [hp]; rfl) nofun (hp ▸ ?_)
    rw [show withdrawBody c [sl, g] s.linkDone = _ from forHolder_own hn' hc]
    obtain hw | ⟨ga, d, hphase⟩ := hphase
    · cases hl : l.phase with
      | waiting w => rfl
      | _ => simp [hl, Phase.isWaiting] at hw
    · rw [hphase]; rfl
  · have hbody : withdrawBody c [sl, g] s.linkDone = (s.linkDone.resolveOffer i .withdrawn, .ok []) := by
      rw [show withdrawBody c [sl, g] s.linkDone = _ from forHolder_own hn' hc, hphase]
    have hdone := completes_of_keeps (i := .withdraw f) hin rfl rfl (by rw [hp]; rfl) nofun ((congrArg (withdrawBody c · s.linkDone) hp).trans hbody)
      (resolveOffer_spares _ i .withdrawn).toKeeps
    have hsame : (s.session l.holder).notices ||| (0 : NoticeSet) = (s.session l.holder).notices := BitVec.or_zero
    rw [hsame]
    rwa [resolveOffer_named hn' hphase] at hdone

end Sys2Proof.Machine
end

section
/-! SUPPORT. REQUEST (chapter 3): the admission test, the static checks, and the grant, the queuing and the refusals. -/

namespace Sys2Proof.Machine

/-! ### The admission test (R51, R54) -/

/-- An output is sole-held when one slot holds it and its lease is SOLE (R30). -/
theorem State.soleHeld_iff {s : State} {o : OutputId} :
    s.soleHeld o = true ↔ ∃ i, s.slotSole i = true ∧ ∀ j, s.slotHolds o j = true ↔ j = i := by
  have hmem : ∀ j, j ∈ s.holdersOf o ↔ s.slotHolds o j = true := fun j => by simp [State.holdersOf]
  constructor
  · intro h
    unfold State.soleHeld at h
    split at h
    next i hi => exact ⟨i, h, fun j => by rw [← hmem, hi, List.mem_singleton]⟩
    next => simp at h
  · rintro ⟨i, hsole, honly⟩
    have hnd : (s.holdersOf o).Nodup := (List.nodup_finRange 32).filter _
    have hone : s.holdersOf o = [i] := List.perm_singleton.mp
      ((List.perm_ext_iff_of_nodup hnd (List.nodup_singleton i)).mpr fun j => by rw [hmem, honly, List.mem_singleton])
    rw [State.soleHeld, hone]
    exact hsole

section
variable {s : State} {S : OutputSet} {k : Kind} {ahead : List SlotId}

theorem State.anyCut_eq_false : s.anyCut S = false ↔ ∀ o : OutputId, S.getLsbD o = true → (s.output o).state ≠ .cut := by
  simp only [State.anyCut, List.any_eq_false, mem_members, beq_iff_eq, ne_eq]

theorem State.kindFree_iff : s.kindFree S k = true ↔ ∀ o : OutputId, S.getLsbD o = true →
    (k = .sole → ∀ i, s.slotHolds o i = false) ∧
    (k = .shared → ¬∃ i, s.slotSole i = true ∧ ∀ j, s.slotHolds o j = true ↔ j = i) := by
  simp only [State.kindFree, List.all_eq_true, mem_members]
  refine forall₂_congr fun o _ => ?_
  cases k with
  | sole => simp [State.held_eq_false]
  | shared => simp [← State.soleHeld_iff]

theorem State.partnerBusy_eq_false : s.partnerBusy S = false ↔
    ∀ o p : OutputId, S.getLsbD o = true → (s.output o).partners.getLsbD p = true →
      (s.output p).state ≠ .on ∧ (s.output p).state ≠ .settle := by
  simp only [State.partnerBusy, List.any_eq_false, mem_members, mem_partnersOf, State.restrains, Bool.or_eq_true,
    beq_iff_eq, not_or]
  exact ⟨fun h o p ho hp => h p ⟨o, ho, hp⟩, fun h p ⟨o, ho, hp⟩ => h o p ho hp⟩

/-- A waiting request overtaken names an output of the set or a partner of one (R54). -/
theorem State.overtakes_eq_false : s.overtakes ahead S = false ↔
    ∀ i ∈ ahead, ∀ o : OutputId, (s.outputsOf i).getLsbD o = true →
      S.getLsbD o = false ∧ ∀ p : OutputId, S.getLsbD p = true → (s.output p).partners.getLsbD o = false := by
  simp only [State.overtakes, List.any_eq_false, bne_iff_ne, outputSet_and_ne_zero, BitVec.getLsbD_or, Bool.or_eq_true,
    mem_partnersOf]
  refine forall₂_congr fun i _ => ⟨fun h o ho => ?_, fun h ⟨o, ho, hor⟩ => ?_⟩
  · refine ⟨Bool.eq_false_iff.mpr fun hS => h ⟨o, ho, .inl hS⟩, fun p hp => Bool.eq_false_iff.mpr fun hpo => ?_⟩
    exact h ⟨o, ho, .inr ⟨p, hp, hpo⟩⟩
  · obtain hS | ⟨p, hp, hpo⟩ := hor
    · exact absurd (hS.symm.trans (h o ho).1) (by decide)
    · exact absurd (hpo.symm.trans ((h o ho).2 p hp)) (by decide)

end

/-- Settles O17: the four conditions, one by one. -/
theorem admissionTestHasFourConditions : Obligations.AdmissionTestHasFourConditions := by
  unfold Obligations.AdmissionTestHasFourConditions
  intro s older S k
  rw [← State.anyCut_eq_false, ← State.kindFree_iff, ← State.partnerBusy_eq_false, ← State.overtakes_eq_false]
  simp only [State.admissible, Bool.and_eq_true, Bool.not_eq_true', and_assoc]

/-! ### The static checks (R49) -/

@[simp] theorem toKind_code (k : Kind) : toKind k.code = some k := by cases k <;> rfl

theorem toKind_eq_none {b : Byte} (h : 0x01 < b.toNat) : toKind b = none := by
  obtain ⟨h0, h1⟩ := byte_ne_of_two_le h
  rw [toKind, if_neg h0, if_neg h1]

theorem byte_count_ne_absent (ch : CountId) : (byte ch : Byte) ≠ 0xFF := by
  revert ch; decide

section
variable {s : State} {r : RequestParams}

theorem State.channelFit_of_absent (h : r.channel = 0xFF) : s.channelFit r = true := if_pos h

theorem State.channelFit_of_byte {ch : CountId} (h : r.channel = byte ch) :
    s.channelFit r = (r.budget != 0 && (s.count ch).enabled) := by
  rw [State.channelFit, if_neg (h ▸ byte_count_ne_absent ch), h, toCount_byte]

theorem State.channelFit_outOfRange (h : r.channel ≠ 0xFF) (h4 : 4 ≤ r.channel.toNat) : s.channelFit r = false := by
  rw [State.channelFit, if_neg h, toCount_eq_none h4]

theorem State.selfExcluded_iff {S : OutputSet} : s.selfExcluded S = true ↔
    ∃ a b : OutputId, S.getLsbD a = true ∧ S.getLsbD b = true ∧ (s.output a).partners.getLsbD b = true := by
  simp only [State.selfExcluded, bne_iff_ne, outputSet_and_ne_zero, mem_partnersOf]
  exact ⟨fun ⟨b, ⟨a, ha, hab⟩, hb⟩ => ⟨a, b, ha, hb, hab⟩, fun ⟨a, b, ha, hb, hab⟩ => ⟨b, ⟨a, ha, hab⟩, hb⟩⟩

theorem State.anyDisabled_iff {S : OutputSet} :
    s.anyDisabled S = true ↔ ∃ o : OutputId, S.getLsbD o = true ∧ (s.output o).maxTerm = 0 := by
  simp [State.anyDisabled, mem_members]

theorem State.minMaxTerm_lt_iff {S : OutputSet} {n : Nat} (hn : n ≤ Config.maxTicks) :
    s.minMaxTerm S < n ↔ ∃ o : OutputId, S.getLsbD o = true ∧ (s.output o).maxTerm < n := by
  rw [← not_iff_not, Nat.not_lt, State.le_minMaxTerm]
  simp only [hn, true_and, not_exists, not_and, Nat.not_lt]

/-- The slot a REQUEST takes is the first FREE one (R50). -/
theorem State.freeSlots_head? : s.freeSlots.head? = (List.finRange 32).find? fun i => (s.leaseAt i).isNone :=
  List.head?_filter

/-- The checks of step 2: kind, outputs, term, wait limit and count channel (R49). -/
theorem staticChecks_badParameter {c : Client} (hmode : s.mode = .run)
    (h : r.outputs = 0 ∨ 0x01 < r.kind.toNat ∨ r.term = 0 ∨ 600000 < r.term ∨ 60000 < r.wait ∨ s.channelFit r = false) :
    s.staticChecks c r = .error .badParameter := by
  rw [State.staticChecks, if_neg (by simp [hmode])]
  cases hk : toKind r.kind with
  | none => rfl
  | some k =>
    refine if_pos ?_
    have hkind : ¬0x01 < r.kind.toNat := fun hlt => by simp [toKind_eq_none hlt] at hk
    simp only [Config.maxTicks, Config.maxWait]
    tauto

/-- The checks of steps 3 to 6, and the slot, of a REQUEST that passes step 2 (R49, R50). -/
theorem staticChecks_of_fit {c : Client} {k : Kind} (hmode : s.mode = .run) (hk : r.kind = k.code) (ho : r.outputs ≠ 0)
    (h1 : 1 ≤ r.term) (hterm : r.term ≤ 600000) (hwait : r.wait ≤ 60000) (hfit : s.channelFit r = true) :
    s.staticChecks c r =
      if s.selfExcluded r.outputs then .error .selfExcluded
      else if s.anyDisabled r.outputs then .error .outputDisabled
      else if s.minMaxTerm r.outputs < r.term then .error .badParameter
      else if (s.session c).quota ≤ s.occupied c then .error .quotaExceeded
      else s.freeSlots.head?.elim (.error .tableFull) fun i => .ok (k, i) := by
  rw [State.staticChecks, if_neg (by simp [hmode]), hk, toKind_code]
  refine (if_neg ?_).trans (by cases s.freeSlots <;> rfl)
  simp only [ho, hfit, Config.maxTicks, Config.maxWait, Bool.true_eq_false, or_false, false_or, not_or]
  omega

end

/-- Settles O16. -/
theorem staticChecksInOrder : Obligations.StaticChecksInOrder := by
  unfold Obligations.StaticChecksInOrder
  intro s c r hquota
  refine ⟨fun hmode => if_pos hmode, fun hmode => ⟨fun hbad => staticChecks_badParameter hmode ?_, ?_⟩⟩
  · obtain h | h | h | h | h | ⟨hne, h4⟩ | ⟨ch, hch, h⟩ := hbad
    · exact .inl h
    · exact .inr (.inl h)
    · exact .inr (.inr (.inl h))
    · exact .inr (.inr (.inr (.inl h)))
    · exact .inr (.inr (.inr (.inr (.inl h))))
    · exact .inr (.inr (.inr (.inr (.inr (State.channelFit_outOfRange hne h4)))))
    · have hfit : s.channelFit r = false := by rw [State.channelFit_of_byte hch]; simpa [or_iff_not_imp_left] using h
      exact .inr (.inr (.inr (.inr (.inr hfit))))
  · intro k hk ho h1 hterm hwait hch
    have hfit : s.channelFit r = true := by
      obtain h | ⟨ch, hch, hb, he⟩ := hch
      · exact State.channelFit_of_absent h
      · rw [State.channelFit_of_byte hch, he]; simpa using hb
    have hfull : (s.session c).quota ≤ s.occupied c ↔ s.occupied c = (s.session c).quota :=
      ⟨fun h => Nat.le_antisymm (hquota c) h, fun h => h.ge⟩
    rw [staticChecks_of_fit hmode hk ho h1 hterm hwait hfit]
    simp only [State.selfExcluded_iff, State.anyDisabled_iff, State.minMaxTerm_lt_iff (s := s) (S := r.outputs) hterm,
      hfull, State.freeSlots_head?]
    cases (List.finRange 32).find? fun i => (s.leaseAt i).isNone <;> rfl

/-! ### REQUEST (R48, R51 to R53) -/

/-- The count bound of a REQUEST, by its channel byte (R4). -/
theorem RequestParams.bound_eq {r : RequestParams} {bound : Option CountBound}
    (h : (r.channel = 0xFF ∧ bound = none) ∨ ∃ n : CountId, r.channel = byte n ∧ bound = some ⟨n, r.budget, 0⟩) :
    r.bound = bound := by
  obtain ⟨hc, rfl⟩ | ⟨n, hc, rfl⟩ := h
  · exact if_pos hc
  · rw [RequestParams.bound, if_neg (hc ▸ byte_count_ne_absent n), hc, toCount_byte]

section
variable {s : State} {c : Client} {p : List Byte} {r : RequestParams} {k : Kind} {i : SlotId}

theorem requestBody_refused {st : Status} (hr : requestParams p = some r) (hst : s.staticChecks c r = .error st) :
    requestBody c p s = (s, .refuse st) := by
  simp only [requestBody, hr, hst]

theorem requestBody_checked (hr : requestParams p = some r) (hst : s.staticChecks c r = .ok (k, i)) :
    requestBody c p s =
      if s.admissible s.waitQueue r.outputs k then s.grantNew c r k i
      else if r.wait = 0 then (s, .refuse (if s.anyCut r.outputs then .outputCut else .conflict))
      else if s.waitQueue.length < Config.queueCapacity then s.queueNew c r k i
      else (s, .refuse .queueFull) := by
  simp only [requestBody, hr, hst]

/-- A slot just taken gives the handle of its new use (R4, R7). -/
theorem State.grantBytes_takeSlot (l : Lease) (t : Tick) :
    (s.takeSlot i l).grantBytes i t = [byte i, nextGeneration (s.slot i).generation] ++ tickBytes t := by
  simp [State.grantBytes, State.handleOf, Handle.bytes, State.takeSlot]

theorem grantNew_eq : s.grantNew c r k i =
    (State.recomputeAll { s with
      slots := s.slots.set i ⟨nextGeneration (s.slot i).generation,
        some ⟨c, r.tag, r.outputs, k, r.term, r.bound, .live s.clock (s.after r.term)⟩⟩
      expiry := insertEntry s.clock ⟨s.after r.term, .lease i⟩ s.expiry } r.outputs,
     .ok ([byte i, nextGeneration (s.slot i).generation] ++ tickBytes (s.after r.term))) := by
  rw [State.grantNew, State.grantBytes_takeSlot]
  rfl

theorem queueNew_eq : s.queueNew c r k i =
    ({ s with
      slots := s.slots.set i ⟨nextGeneration (s.slot i).generation,
        some ⟨c, r.tag, r.outputs, k, r.term, r.bound, .waiting (s.after r.wait)⟩⟩
      waitQueue := s.waitQueue ++ [i]
      expiry := insertEntry s.clock ⟨s.after r.wait, .wait i⟩ s.expiry },
     ⟨.queued, [byte i, nextGeneration (s.slot i).generation] ++ tickBytes (s.after r.wait)⟩) := by
  rw [State.queueNew, State.grantBytes_takeSlot]
  rfl

end

/-- Settles O18. -/
theorem admissibleRequestIsGranted : Obligations.AdmissibleRequestIsGranted := by
  unfold Obligations.AdmissibleRequestIsGranted
  intro s f c os kb t0 t1 t2 w0 w1 ch b0 b1 tag bound k i hin hp term wait budget hst hadm hbound
  have hb : RequestParams.bound ⟨os, kb, term, wait, ch, budget, tag⟩ = bound := RequestParams.bound_eq hbound
  have hbody := requestBody_checked (s := s.linkDone) (p := f.params) (by rw [hp]; rfl) hst
  rw [if_pos (show s.linkDone.admissible s.linkDone.waitQueue os k = true from hadm), grantNew_eq, hb] at hbody
  exact completes_of_body hin rfl rfl (by rw [hp]; rfl) nofun hbody (recomputeAll_sessions _ _)

/-- Settles O19. -/
theorem blockedRequestIsQueued : Obligations.BlockedRequestIsQueued := by
  unfold Obligations.BlockedRequestIsQueued
  intro s f c os kb t0 t1 t2 w0 w1 ch b0 b1 tag bound k i hin hp term wait budget hst hadm hbound hwait hroom
  have hb : RequestParams.bound ⟨os, kb, term, wait, ch, budget, tag⟩ = bound := RequestParams.bound_eq hbound
  have hbody := requestBody_checked (s := s.linkDone) (p := f.params) (by rw [hp]; rfl) hst
  rw [if_neg (show ¬s.linkDone.admissible s.linkDone.waitQueue os k = true from ne_true_of_eq_false hadm),
    if_neg (show ¬wait = 0 by omega), if_pos (show s.linkDone.waitQueue.length < Config.queueCapacity from hroom),
    queueNew_eq, hb] at hbody
  exact completes_of_body hin rfl rfl (by rw [hp]; rfl) nofun hbody rfl

/-- Settles O20. -/
theorem refusedRequestTakesNothing : Obligations.RefusedRequestTakesNothing := by
  unfold Obligations.RefusedRequestTakesNothing
  intro s f c os kb t0 t1 t2 w0 w1 ch b0 b1 tag hin hp term wait budget r
  have hr : requestParams f.params = some r := by rw [hp]; rfl
  have hrefuse : ∀ {st : Status}, requestBody c f.params s.linkDone = (s.linkDone, .refuse st) →
      s.Completes (.request f) f c 0x10 s.linkDone st [] :=
    fun hbody => completes_of_body_keeps hin rfl rfl (by rw [hp]; rfl) nofun hbody
  refine ⟨fun st hst => hrefuse (requestBody_refused (s := s.linkDone) hr hst), fun k i hst hadm => ?_⟩
  have hbody := requestBody_checked (s := s.linkDone) hr hst
  rw [if_neg (show ¬s.linkDone.admissible s.linkDone.waitQueue os k = true from ne_true_of_eq_false hadm)] at hbody
  refine ⟨fun h0 ⟨o, ho, hcut⟩ => hrefuse ?_, fun h0 hno => hrefuse ?_, fun h1 hfull => hrefuse ?_⟩ <;> rw [hbody]
  · have hany : s.linkDone.anyCut os = true := by
      rw [← Bool.not_eq_false, State.anyCut_eq_false]
      exact fun h => h o ho hcut
    rw [if_pos (show r.wait = 0 from h0), if_pos (show s.linkDone.anyCut r.outputs = true from hany)]
  · have hany : s.linkDone.anyCut os = false := State.anyCut_eq_false.mpr hno
    rw [if_pos (show r.wait = 0 from h0), if_neg (show ¬s.linkDone.anyCut r.outputs = true from ne_true_of_eq_false hany)]
  · rw [if_neg (show ¬r.wait = 0 from Nat.ne_of_gt h1),
      if_neg (show ¬s.linkDone.waitQueue.length < Config.queueCapacity from Nat.not_lt.mpr hfull)]

end Sys2Proof.Machine
end

section
/-! SUPPORT. The session commands (chapter 8): OPEN, CLOSE, FORCE_CLOSE, SET_QUOTA, READ_NOTICES and SET_NOTICE_MASK; and
START (R157) with the MODE notices it sends. -/

namespace Sys2Proof.Machine

/-! ### The full close, up to its record and its review (R145) -/

/-- A full close before the session's record is closed: the slots it holds freed and the offers made to it returned. -/
def State.closeBase (s : State) (c : Client) : State :=
  (List.finRange 32).foldl (returnOffer c) ((s.slotsOf c).foldl State.freeSlot s)

theorem closeFull_eq (s : State) (c : Client) :
    s.closeFull c = ((s.closeBase c).closeRecord c).reviewIf ((List.finRange 32).any (s.activeOf c)) := rfl

theorem closeBase_spares (s : State) (c : Client) : Spares s (s.closeBase c) :=
  (Spares.foldl freeSlot_spares _ s).trans (Spares.foldl (returnOffer_spares c) _ _)

theorem State.session_closeRecord (s : State) (c d : Client) :
    (s.closeRecord c).session d =
      if d = c then { s.session c with opened := none, notices := 0, mask := allNotices, outcome := none }
      else s.session d := by
  have hput := s.session_putSession c d { s.session c with opened := none, notices := 0, mask := allNotices, outcome := none }
  refine hput.trans ?_
  by_cases hd : d = c
  · rw [if_pos hd, if_pos hd.symm]
  · rw [if_neg hd, if_neg (Ne.symm hd)]

theorem State.opened_closeFull_self (s : State) (c : Client) : ((s.closeFull c).session c).opened = none := by
  rw [closeFull_eq, (reviewIf_spares ..).opened, State.session_closeRecord, if_pos rfl]

theorem State.epoch_closeFull (s : State) (c d : Client) : ((s.closeFull c).session d).epoch = (s.session d).epoch := by
  rw [closeFull_eq, (reviewIf_spares ..).epoch, State.session_closeRecord, ← (closeBase_spares s c).epoch]
  split
  next h => rw [h]
  next => rfl

theorem State.opened_closeFull (s : State) {c d : Client} (h : d ≠ c) :
    ((s.closeFull c).session d).opened = (s.session d).opened := by
  rw [closeFull_eq, (reviewIf_spares ..).opened, State.session_closeRecord, if_neg h, (closeBase_spares s c).opened]

theorem State.quota_closeFull (s : State) (c d : Client) : ((s.closeFull c).session d).quota = (s.session d).quota := by
  rw [closeFull_eq, (reviewIf_spares ..).quota, State.session_closeRecord, ← (closeBase_spares s c).quota]
  split
  next h => rw [h]
  next => rfl

/-! ### OPEN (R142, R143, R144, R176) -/

theorem exec_openSession {s : State} {f : Frame} {c : Client} {sen : Bool} (hh : s.hears f.addr = true)
    (hw : f.wf 0x01 = true) (hc : f.client = byte c) :
    exec (.openSession f sen) s =
      .next (openFrame sen { client := c, epoch := f.epoch, seq := f.seq, code := 0x01, params := f.params } s.linkDone) := by
  have hsender : Fin.ofNat 8 f.client.toNat = c := by rw [hc, byte_client]; simp
  rw [show exec (.openSession f sen) s = .next (frameRow 0x01 (openFrame sen) f s) from rfl, frameRow_taken hh hw, hsender]

/-- Settles O11. -/
theorem openOpensOrIsRefused : Obligations.OpenOpensOrIsRefused := by
  unfold Obligations.OpenOpensOrIsRefused
  refine ⟨fun s f c sen hh hw hc hp hsen => ?_, fun s f c sen hh hw hc => ⟨fun hp => ?_, fun hp h0 hlow => ?_⟩⟩
  · intro read t e r
    have hepoch : (t.session c).epoch = (s.session c).epoch := by
      have hread : (read.session c).epoch = (s.session c).epoch := by simp only [read]; split <;> rfl
      simp only [t]
      split
      · rw [State.epoch_closeFull, hread]
      · exact hread
    have hr : (read.isOpen c) = s.isOpen c := by simp only [read]; split <;> rfl
    rw [exec_openSession hh hw hc, openFrame_eq, if_neg (by simp [hp]), if_neg (by
      rintro ⟨h0, hlow⟩; exact absurd (hlow.symm.trans (hsen h0)) (by decide))]
    have hread : s.linkDone.readSen sen c = read := rfl
    have ht : (if (s.linkDone.readSen sen c).isOpen c then (s.linkDone.readSen sen c).closeFull c
        else s.linkDone.readSen sen c) = t := by rw [hread, hr]
    dsimp only
    rw [ht, openFresh_eq, State.freshSession]
    dsimp only
    rw [hepoch]
    rfl
  · rw [exec_openSession hh hw hc, openFrame_eq, if_pos (by simpa using hp)]
    rfl
  · subst h0 hlow
    rw [exec_openSession hh hw hc, openFrame_eq, if_neg (by simp [hp]), if_pos ⟨rfl, rfl⟩]
    rfl

/-! ### CLOSE and FORCE_CLOSE (R146, R147) -/

/-- A command in sequence that passes steps 6 to 8 of R175 is carried out and concluded. -/
theorem frameRow_command {code : Byte} {body : Body} {f : Frame} {c : Client} {s : State} {row : CommandRow}
    (hin : s.InSequence f code c) (hrow : lookupCommand code = some row) (hlen : f.params.length = row.length)
    (hsup : row.supervisor = true → c = 0) :
    frameRow code (accept body) f s = (body c f.params s.linkDone).1.conclude
      { client := c, epoch := f.epoch, seq := f.seq, code := code, params := f.params } (body c f.params s.linkDone).2 := by
  obtain ⟨hh, hw, hc, he, hseq⟩ := hin
  obtain ⟨o, ho, hnext⟩ := Option.map_eq_some_iff.mp hseq
  have hne : f.seq ≠ o.lastSeq := by rw [← hnext]; simp
  rw [frameRow_accept hh hw hc, accept]
  simp only [State.linkDone_session, ho, hrow]
  rw [if_neg (by simp [he]), if_neg hne, if_neg (by rw [hnext]; simp), if_neg (by simp [hlen]),
    if_neg fun h => h.2 (hsup h.1)]

/-- Settles O12. -/
theorem closeAndForceClose : Obligations.CloseAndForceClose := by
  unfold Obligations.CloseAndForceClose
  refine ⟨fun s f c hin hp => ?_, fun s f b hin hp => ⟨fun hb => ?_, fun v hv hb => ⟨fun hclosed => ?_, fun hopen => ?_⟩⟩⟩
  · have hepoch : ((s.linkDone.closeFull c).session c).epoch = f.epoch := by
      rw [State.epoch_closeFull]; exact hin.2.2.2.1.symm
    rw [show exec (.closeSession f) s = .next (frameRow 0x02 (accept closeBody) f s) from rfl,
      frameRow_command hin rfl (by rw [hp]; rfl) nofun]
    refine congrArg Host.Outcome.next ?_
    simp only [closeBody, State.conclude, State.responseTo, hepoch, State.opened_closeFull_self, Option.map_none]
    rw [State.withSlot, State.putSession, Frame.answer, ← State.opened_closeFull_self s.linkDone c, ← hepoch]
    rfl
  · refine completes_of_body_keeps hin rfl rfl (by rw [hp]; rfl) (fun _ => rfl) (hp ▸ ?_)
    obtain rfl | h8 := hb
    · rfl
    · simp [forceCloseBody, toClient_eq_none h8, Reply.refuse]
  · subst hb
    have hclosed' : s.linkDone.isOpen v = false := hclosed
    exact completes_of_body_keeps hin rfl rfl (by rw [hp]; rfl) (fun _ => rfl)
      (hp ▸ by simp [forceCloseBody, hv, hclosed', Reply.refuse])
  · subst hb
    have hbody : forceCloseBody 0 f.params s.linkDone = (s.linkDone.closeFull v, .ok []) := by
      have hopen' : s.linkDone.isOpen v = true := hopen
      simp [hp, forceCloseBody, hv, hopen']
    rw [State.Completes, show exec (.forceClose f) s = .next (frameRow 0x39 (accept forceCloseBody) f s) from rfl,
      command_result hin rfl (by rw [hp]; rfl) (fun _ => rfl) hbody
        (by rw [State.opened_closeFull _ (Ne.symm hv)]; exact hin.isOpen) (State.epoch_closeFull _ v 0)]

/-! ### READ_NOTICES and SET_NOTICE_MASK (R151, R153) -/

theorem noticeMask_toNat (m : NoticeSet) : (m.zeroExtend 8 : Byte).toNat < 64 ∧ (m.zeroExtend 8 : Byte).truncate 6 = m := by
  constructor
  · simp [BitVec.toNat_setWidth]; omega
  · simp

/-- A mask byte with position 6 or 7 set is 64 or more. -/
theorem le_toNat_of_high {b : Byte} (h : b &&& 0xC0 ≠ 0) : 64 ≤ b.toNat := by
  by_contra hlt
  refine h (BitVec.eq_of_getLsbD_eq fun i hi => ?_)
  rw [BitVec.getLsbD_and]
  by_cases h6 : i < 6
  · have hc : (0xC0 : Byte).getLsbD i = false := by interval_cases i <;> rfl
    rw [hc, Bool.and_false]
    exact BitVec.getLsbD_zero.symm
  · have hb : b.getLsbD i = false := by
      rw [BitVec.getLsbD]
      exact Nat.testBit_lt_two_pow (lt_of_lt_of_le (Nat.lt_of_not_le hlt) (Nat.pow_le_pow_right (n := 2) (by omega) (Nat.le_of_not_lt h6)))
    rw [hb, Bool.false_and]
    exact BitVec.getLsbD_zero.symm

/-- An update of the sender's own record that keeps it OPEN in its epoch, with ATN brought up to date. -/
theorem completes_of_putSession {i : Instr} {body : Body} {f : Frame} {c : Client} {code : Byte} {s : State} {x : Session}
    {row : CommandRow} {st : Status} {rs : List Byte} (hin : s.InSequence f code c)
    (hexec : exec i s = .next (frameRow code (accept body) f s)) (hrow : lookupCommand code = some row)
    (hlen : f.params.length = row.length) (hsup : row.supervisor = true → c = 0)
    (hbody : body c f.params s.linkDone = ((s.linkDone.putSession c x).updateAtn, { status := st, results := rs }))
    (hopened : x.opened = (s.session c).opened) (hepoch : x.epoch = (s.session c).epoch) :
    s.Completes i f c code (s.linkDone.putSession c x).updateAtn st rs := by
  have hx : (s.linkDone.putSession c x).updateAtn.session c = x :=
    (s.linkDone.session_putSession c c x).trans (if_pos rfl)
  have hopen : ((s.linkDone.putSession c x).updateAtn.session c).opened.isSome = true := by
    rw [hx, hopened]; exact hin.isOpen
  rw [State.Completes, hexec, command_result hin hrow hlen hsup hbody hopen (by rw [hx, hepoch])]

/-- Settles O14. -/
theorem noticesAreReadAndMasked : Obligations.NoticesAreReadAndMasked := by
  unfold Obligations.NoticesAreReadAndMasked
  refine ⟨fun s f c hin hp => ?_, fun s f c b hin hp => ⟨fun m hm => ?_, fun hhigh => ?_⟩⟩
  · have hbytes : ∀ x : Option (Handle × Outcome), outcomeBytes x = (match x with
        | some (h, o) => [byte h.slot, h.generation, o.code]
        | none => [0xFF, 0xFF, 0xFF]) := by
      rintro (_ | ⟨h, o⟩) <;> rfl
    have hdone := completes_of_putSession (i := .readNotices f) (body := readNoticesBody) hin rfl rfl (by rw [hp]; rfl) nofun rfl rfl rfl
    refine Eq.trans hdone ?_
    rw [hbytes]
    rfl
  · obtain ⟨hlt, htr⟩ := noticeMask_toNat m
    have hbody : setNoticeMaskBody c f.params s.linkDone =
        ((s.linkDone.putSession c { s.session c with mask := m }).updateAtn, .ok []) := by
      rw [hp, hm]
      exact (if_pos hlt).trans (by rw [htr]; rfl)
    exact completes_of_putSession hin rfl rfl (by rw [hp]; rfl) nofun hbody rfl rfl
  · exact completes_of_body_keeps hin rfl rfl (by rw [hp]; rfl) nofun
      (hp ▸ if_neg (Nat.not_lt.mpr (le_toNat_of_high hhigh)))

/-! ### SET_QUOTA (R149) -/

/-- Settles O15. -/
theorem setQuotaWritesTheQuota : Obligations.SetQuotaWritesTheQuota := by
  unfold Obligations.SetQuotaWritesTheQuota
  intro s f b q hin hp
  have hkeeps : ∀ {st : Status}, setQuotaBody 0 [b, q] s.linkDone = (s.linkDone, .refuse st) →
      s.Completes (.setQuota f) f 0 0x36 s.linkDone st [] := fun hbody =>
    completes_of_body_keeps hin rfl rfl (by rw [hp]; rfl) (fun _ => rfl) (hp ▸ hbody)
  refine ⟨fun hrun => hkeeps (if_pos hrun), fun hsetup => ⟨fun h8 => hkeeps ?_, fun v hv => ⟨fun hbad => hkeeps ?_, fun hmax hocc => ?_⟩⟩⟩
  all_goals have hmode : ¬s.linkDone.mode = .run := by rw [show s.linkDone.mode = _ from hsetup]; simp
  · rw [setQuotaBody, if_neg hmode, toClient_eq_none h8]
  · subst hv
    rw [setQuotaBody, if_neg hmode, toClient_byte]
    exact if_pos hbad
  · subst hv
    have hbody : setQuotaBody 0 f.params s.linkDone =
        (s.linkDone.putSession v { s.session v with quota := q.toNat }, .ok []) := by
      rw [hp, setQuotaBody, if_neg hmode, toClient_byte]
      exact if_neg (not_or.mpr ⟨Nat.not_lt.mpr hmax, Nat.not_lt.mpr hocc⟩)
    have hsession : ∀ d, ((s.linkDone.putSession v { s.session v with quota := q.toNat }).session d).opened = (s.session d).opened ∧
        ((s.linkDone.putSession v { s.session v with quota := q.toNat }).session d).epoch = (s.session d).epoch := by
      intro d
      rw [State.session_putSession]
      split
      next h => subst h; exact ⟨rfl, rfl⟩
      next => exact ⟨rfl, rfl⟩
    rw [State.Completes, show exec (.setQuota f) s = .next (frameRow 0x36 (accept setQuotaBody) f s) from rfl,
      command_result hin rfl (by rw [hp]; rfl) (fun _ => rfl) hbody (by rw [(hsession 0).1]; exact hin.isOpen) (hsession 0).2]
    rfl

end Sys2Proof.Machine
end

section
/-! SUPPORT. A notice to several clients, whole, and START (R157), which sends MODE. -/

namespace Sys2Proof.Machine

/-- Two states with the same fields are the same. -/
theorem State.eq_of_fields {s t : State} (hpower : s.power = t.power) (hpins : s.pins = t.pins) (hmode : s.mode = t.mode)
    (hclock : s.clock = t.clock) (hslots : s.slots = t.slots) (houtputs : s.outputs = t.outputs)
    (hwait : s.waitQueue = t.waitQueue) (hexpiry : s.expiry = t.expiry) (hcounts : s.counts = t.counts)
    (hfaults : s.faults = t.faults) (hsessions : s.sessions = t.sessions) (hlink : s.link = t.link)
    (hlines : s.gLines = t.gLines) (hatn : s.atnLow = t.atnLow) (hpending : s.pending = t.pending) : s = t := by
  cases s; cases t; simp_all

theorem Vector.eq_ofFn {α : Type} {n : Nat} {v : Vector α n} {f : Fin n → α} (h : ∀ i : Fin n, v[i] = f i) :
    v = Vector.ofFn f :=
  Vector.ext fun i hi => by simpa using h ⟨i, hi⟩

/-! ### A notice to every client of a list (R150, R157, R159) -/

theorem notify_frame (s : State) (c : Client) (k : Notice) :
    s.notify c k = { s with sessions := (s.notify c k).sessions, atnLow := (s.notify c k).atnLow } := by
  unfold State.notify
  split <;> rfl

theorem notifyAll_frame (k : Notice) (L : List Client) (s : State) :
    L.foldl (fun t c => t.notify c k) s =
      { s with sessions := (L.foldl (fun t c => t.notify c k) s).sessions
               atnLow := (L.foldl (fun t c => t.notify c k) s).atnLow } := by
  induction L generalizing s with
  | nil => rfl
  | cons c L ih =>
    rw [List.foldl_cons]
    have hfield := ih (s.notify c k)
    generalize L.foldl (fun t c => t.notify c k) (s.notify c k) = u at hfield ⊢
    rw [hfield, notify_frame s c k]

theorem State.session_notifyAll (k : Notice) {L : List Client} (hL : L.Nodup) (s : State) (d : Client) :
    (L.foldl (fun t c => t.notify c k) s).session d =
      if d ∈ L ∧ s.isOpen d = true then { s.session d with notices := (s.session d).notices ||| k.bit }
      else s.session d := by
  induction L generalizing s with
  | nil => simp
  | cons c L ih =>
    obtain ⟨hc, hL⟩ := List.nodup_cons.mp hL
    rw [List.foldl_cons, ih hL, State.isOpen_notify, State.session_notify]
    by_cases hd : d = c
    · subst hd; simp [hc]
    · simp [hd]

/-- ATN is up to date after notices when it was before (R152). -/
theorem State.atnLow_notifyAll (k : Notice) (L : List Client) {s : State} (h : s.atnLow = s.attention) :
    (L.foldl (fun t c => t.notify c k) s).atnLow = (L.foldl (fun t c => t.notify c k) s).attention := by
  induction L generalizing s with
  | nil => exact h
  | cons c L ih =>
    refine ih ?_
    rw [State.atnLow_notify]
    split
    next => rfl
    next hc =>
      have hsame : s.notify c k = s := if_neg hc
      show s.atnLow = (s.notify c k).attention
      rw [hsame, h]

/-- A state that differs from another in its sessions and in ATN, which is up to date. -/
theorem eq_updateAtn_of_frame {s u : State} {V : Vector Session 8}
    (hframe : u = { s with sessions := u.sessions, atnLow := u.atnLow }) (hses : u.sessions = V)
    (hatn : u.atnLow = u.attention) : u = State.updateAtn { s with sessions := V } := by
  subst hses
  rw [State.updateAtn, State.attention_congr (s := u) (t := { s with sessions := u.sessions }) rfl, ← hatn]
  exact hframe

/-- The MODE notices to every OPEN session but the supervisor's, in one update (R157). -/
theorem notifyMode_eq {s : State} (h : s.atnLow = s.attention) :
    s.notifyMode = State.updateAtn { s with
      sessions := Vector.ofFn fun c : Client =>
        if c ≠ 0 ∧ s.isOpen c = true then { s.session c with notices := (s.session c).notices ||| Notice.bit .mode }
        else s.session c } := by
  have hnd : ((List.finRange 8).filter fun c : Client => c ≠ 0).Nodup := (List.nodup_finRange 8).filter _
  have hses : s.notifyMode.sessions = Vector.ofFn fun c : Client =>
      if c ≠ 0 ∧ s.isOpen c = true then { s.session c with notices := (s.session c).notices ||| Notice.bit .mode }
      else s.session c := by
    refine Vector.eq_ofFn fun c => (State.session_notifyAll .mode hnd s c).trans ?_
    simp
  have hatn : s.notifyMode.atnLow = s.notifyMode.attention := State.atnLow_notifyAll .mode _ h
  have hframe : s.notifyMode = { s with sessions := s.notifyMode.sessions, atnLow := s.notifyMode.atnLow } :=
    notifyAll_frame .mode _ s
  exact eq_updateAtn_of_frame hframe hses hatn

theorem State.session_notifyMode (s : State) (c : Client) :
    s.notifyMode.session c =
      if c ≠ 0 ∧ s.isOpen c = true then { s.session c with notices := (s.session c).notices ||| Notice.bit .mode }
      else s.session c := by
  refine (State.session_notifyAll .mode ((List.nodup_finRange 8).filter _) s c).trans ?_
  simp

/-- Settles O54. -/
theorem startEntersRun : Obligations.StartEntersRun := by
  unfold Obligations.StartEntersRun
  intro s f hin hp
  refine ⟨fun hrun => ?_, fun hsetup hatn => ?_⟩
  · have hrun' : s.linkDone.mode = .run := hrun
    exact completes_of_body_keeps hin rfl rfl (by rw [hp]; rfl) (fun _ => rfl) (by rw [startBody, hrun']; rfl)
  · have hsetup' : s.linkDone.mode = .setup := hsetup
    have hbody : startBody 0 f.params s.linkDone = (State.notifyMode { s.linkDone with mode := .run }, .ok []) := by
      rw [startBody, hsetup']
    have hspares := notifyMode_spares { s.linkDone with mode := .run }
    rw [State.Completes, show exec (.start f) s = .next (frameRow 0x30 (accept startBody) f s) from rfl,
      command_result hin rfl (by rw [hp]; rfl) (fun _ => rfl) hbody (by rw [hspares.opened]; exact hin.isOpen)
        (hspares.epoch 0), notifyMode_eq (s := { s.linkDone with mode := .run }) hatn]
    rfl

end Sys2Proof.Machine
end

section
/-! SUPPORT. The rows of the expiry queue (4.3): LEASE_EXPIRY, WAIT_EXPIRY, OFFER_TIMEOUT, SETTLE_END and QUIET_DUE; and the
samples of the count channels (R92, R93). -/

namespace Sys2Proof.Machine

/-! ### Due entries (R34, R62, R83, R113, R130) -/

section
variable {s : State} {k : Key} {q : List Entry}

/-- A row of the expiry queue delivers its entry when it stands at the front and is due (R79). -/
theorem exec_row_of_front (hrun : s.power = .running) (he : s.expiry = ⟨s.clock, k⟩ :: q) :
    exec k.row s = .next (State.deliver { s with expiry := q } k) := by
  rw [exec_row, dueEvent_of_front hrun he]

theorem exec_row_of_not_front {e : Entry} (he : s.expiry = e :: q) (h : e ≠ ⟨s.clock, k⟩) : exec k.row s = .next s := by
  rw [exec_row, dueEvent_of_not_front]
  rw [State.frontDue, he]
  by_contra htrue
  obtain ⟨hd, hk⟩ : e.deadline = s.clock ∧ e.key = k := by simpa using htrue
  exact h (by rw [← hd, ← hk])

end

theorem leaseDue_of_live {s : State} {i : SlotId} {l : Lease} (hl : s.leaseAt i = some l) (hlive : l.phase.isLive = true) :
    s.leaseDue i = (s.endLease i .expired none).review := by
  rw [State.leaseDue, hl]
  exact if_pos hlive

theorem waitDue_of_waiting {s : State} {i : SlotId} {l : Lease} (hl : s.leaseAt i = some l)
    (hwait : l.phase.isWaiting = true) : s.waitDue i = (s.endLease i .waitExpired none).review := by
  rw [State.waitDue, hl]
  exact if_pos hwait

theorem offerDue_of_offered {s : State} {i : SlotId} {l : Lease} {ga d od : Tick} {r : Client} (hl : s.leaseAt i = some l)
    (hp : l.phase = .offered ga d r od) : s.offerDue i = (s.resolveOffer i .timedOut).notify l.holder .offerOut := by
  simp only [State.offerDue, hl, hp]

/-- Settles O38. -/
theorem leaseAndWaitEntriesEndTheirLeases : Obligations.LeaseAndWaitEntriesEndTheirLeases := by
  unfold Obligations.LeaseAndWaitEntriesEndTheirLeases
  intro s e q i l hrun he hl
  refine ⟨fun hk hlive => ?_, fun hk hwait => ?_, exec_row_of_not_front (k := .lease i) he,
    exec_row_of_not_front (k := .wait i) he⟩
  · rw [hk] at he
    refine (exec_row_of_front (k := .lease i) hrun he).trans (congrArg Host.Outcome.next ?_)
    exact leaseDue_of_live (s := { s with expiry := q }) hl hlive
  · rw [hk] at he
    refine (exec_row_of_front (k := .wait i) hrun he).trans (congrArg Host.Outcome.next ?_)
    exact waitDue_of_waiting (s := { s with expiry := q }) hl hwait

/-- Settles O39. -/
theorem offerTimeoutReturnsTheLease : Obligations.OfferTimeoutReturnsTheLease := by
  unfold Obligations.OfferTimeoutReturnsTheLease
  intro s q i l ga d od r hrun he hq hl hp hopen
  have hl' : State.leaseAt { s with expiry := q } i = some l := hl
  have hgone : removeEntry (.offer i) q = q := List.filter_eq_self.mpr fun e he => by simpa using hq e he
  refine (exec_row_of_front (k := .offer i) hrun he).trans (congrArg Host.Outcome.next ?_)
  refine (offerDue_of_offered hl' hp).trans ?_
  rw [resolveOffer_of_offered hl' hp, notify_setOutcome]
  · rw [State.unschedule, hgone]
    rfl
  · exact hopen

/-- Settles O40. -/
theorem settleAndQuietEntries : Obligations.SettleAndQuietEntries := by
  unfold Obligations.SettleAndQuietEntries
  refine ⟨fun s q o hrun he hst => ?_, fun s q ch hrun he hst => ?_⟩
  · exact (exec_row_of_front (k := .settle o) hrun he).trans (congrArg Host.Outcome.next (if_pos hst))
  · exact (exec_row_of_front (k := .quiet ch) hrun he).trans (congrArg Host.Outcome.next (if_pos hst))

/-! ### Count samples (R92, R93) -/

section
variable {k : CountChannel} {level : Bool}

theorem CountChannel.takesUp_iff : k.takesUp level = true ↔ level = k.lastSample ∧ level ≠ k.filtered := by
  simp [CountChannel.takesUp]

theorem CountChannel.counts_iff : k.counts level = true ↔
    k.edge = .both ∨ (k.edge = .rising ∧ level = true) ∨ (k.edge = .falling ∧ level = false) := by
  unfold CountChannel.counts
  cases k.edge <;> simp

theorem CountChannel.edgeAt_iff : k.edgeAt level = true ↔ (level = k.lastSample ∧ level ≠ k.filtered) ∧
    (k.edge = .both ∨ (k.edge = .rising ∧ level = true) ∨ (k.edge = .falling ∧ level = false)) := by
  rw [CountChannel.edgeAt, Bool.and_eq_true, CountChannel.takesUp_iff, CountChannel.counts_iff]

theorem CountChannel.sampled_eq : k.sampled level =
    { k with filtered := if level = k.lastSample ∧ level ≠ k.filtered then level else k.filtered, lastSample := level } := by
  simp only [CountChannel.sampled, CountChannel.takesUp_iff]

/-- A sample that makes a counted edge is at the level the filtered level does not have (R93). -/
theorem CountChannel.level_of_edgeAt (h : k.edgeAt level = true) : level = !k.filtered := by
  obtain ⟨⟨-, hne⟩, -⟩ := CountChannel.edgeAt_iff.mp h
  cases level <;> cases hf : k.filtered <;> simp_all

end

theorem sampleCount_eq (s : State) (ch : CountId) (level : Bool) :
    s.sampleCount ch level =
      let t := { s with
        pins := { s.pins with count := s.pins.count.set ch level }
        counts := s.counts.set ch ((s.count ch).sampled level) }
      if (s.count ch).edgeAt level then t.countEdge ch else t := rfl

/-- Settles O43. -/
theorem countSamplesFilterTheLine : Obligations.CountSamplesFilterTheLine := by
  unfold Obligations.CountSamplesFilterTheLine
  intro s ch level k changes counted t
  have hsample : s.sampleCount ch level = if k.edgeAt level then t.countEdge ch else t := by
    rw [sampleCount_eq, CountChannel.sampled_eq]
  refine ⟨fun hrun hon hno => ?_, fun hrun hon hedge => ?_, fun hoff => ?_⟩
  · refine congrArg Host.Outcome.next ((if_pos ⟨hrun, hon⟩).trans ?_)
    rw [hsample, if_neg fun h => hno (CountChannel.edgeAt_iff.mp h)]
  · have hat : k.edgeAt level = true := CountChannel.edgeAt_iff.mpr hedge
    have hlevel : (!(s.count ch).filtered) = level := (CountChannel.level_of_edgeAt hat).symm
    have htaken : s.sampleCount ch level = t.countEdge ch := by rw [hsample, if_pos hat]
    have hcan : (s.count ch).edgeAt (!(s.count ch).filtered) = true := by rw [hlevel]; exact hat
    refine ⟨congrArg Host.Outcome.next ((if_pos ⟨hrun, hon⟩).trans htaken), ?_⟩
    refine congrArg Host.Outcome.next ((if_pos ⟨hrun, hon, hcan⟩).trans ?_)
    rw [hlevel, htaken]
  · have hoff' : ¬(s.power = .running ∧ (s.count ch).enabled = true) := fun ⟨hrun, hon⟩ =>
      hoff.elim (fun h => h hrun) fun h => absurd (h.symm.trans hon) Bool.false_ne_true
    exact ⟨congrArg Host.Outcome.next (if_neg hoff'),
      congrArg Host.Outcome.next (if_neg fun h => hoff' ⟨h.1, h.2.1⟩)⟩

end Sys2Proof.Machine
end

section
/-! SUPPORT. Cuts lifted and the rows of the fault channels that lift them (chapter 7): FAULT_CLEAR, LATCHED_LEVEL_CHANGE,
RECOVER_DUE, RELEASE_FAULT and SET_FAULT. -/

namespace Sys2Proof.Machine

/-! ### An update of each output of a list -/

/-- Outputs replaced one by one, in one update of the outputs and their lines. -/
theorem foldl_putOutput (g : Output → Output) {L : List OutputId} (hL : L.Nodup) (s : State) :
    L.foldl (fun t o => t.putOutput o (g (t.output o))) s = { s with
      outputs := Vector.ofFn fun o : OutputId => if o ∈ L then g (s.output o) else s.output o
      gLines := Vector.ofFn fun o : OutputId => if o ∈ L then (g (s.output o)).line else s.gLines[o] } := by
  induction L generalizing s with
  | nil =>
    refine State.eq_of_fields rfl rfl rfl rfl rfl ?_ rfl rfl rfl rfl rfl rfl ?_ rfl rfl
    · exact Vector.eq_ofFn fun o => by simp [State.output]
    · exact Vector.eq_ofFn fun o => by simp
  | cons a L ih =>
    obtain ⟨ha, hL⟩ := List.nodup_cons.mp hL
    rw [List.foldl_cons, ih hL]
    refine State.eq_of_fields rfl rfl rfl rfl rfl ?_ rfl rfl rfl rfl rfl rfl ?_ rfl rfl
    · refine congrArg Vector.ofFn (funext fun o => ?_)
      by_cases ho : a = o
      · subst ho; simp [ha]
      · simp [ho, Ne.symm ho]
    · refine congrArg Vector.ofFn (funext fun o => ?_)
      by_cases ho : a = o
      · subst ho; simp [ha, s.gLine_putOutput]
      · simp [ho, Ne.symm ho, s.gLine_putOutput]

/-! ### Cuts lifted (R36) -/

/-- An output with channel `ch` removed from its cut-by set (R36). -/
def Output.lifted (ch : FaultId) (x : Output) : Output :=
  { x with
    cutBy := x.cutBy &&& ~~~(BitVec.twoPow 4 ch)
    state := if x.state = .cut ∧ x.cutBy &&& ~~~(BitVec.twoPow 4 ch) = 0 then .off else x.state }

theorem uncut_eq (ch : FaultId) {L : List OutputId} (hL : L.Nodup) (s : State) :
    s.uncut ch L = { s with
      outputs := Vector.ofFn fun o : OutputId => if o ∈ L then (s.output o).lifted ch else s.output o
      gLines := Vector.ofFn fun o : OutputId => if o ∈ L then ((s.output o).lifted ch).line else s.gLines[o] } :=
  foldl_putOutput (Output.lifted ch) hL s

/-- Some output leaves CUT, or none does, by whether its cut was by this channel alone. -/
theorem leaveCut_isEmpty (ch : FaultId) {L : List OutputId} {s : State} :
    (s.leaveCut ch L).isEmpty = true ↔ ∀ o ∈ L, (s.output o).state = .cut → ((s.output o).lifted ch).state = .cut := by
  simp only [State.leaveCut, List.isEmpty_iff, List.filter_eq_nil_iff, decide_eq_true_eq, not_and, Output.lifted]
  refine forall₂_congr fun o _ => ⟨fun h hcut => ?_, fun h hcut hleft => ?_⟩
  · rw [if_neg fun hand => h hcut hand.2, hcut]
  · have := h hcut
    rw [if_pos ⟨hcut, hleft⟩] at this
    exact absurd this (by decide)

section
variable {s : State} {ch : FaultId} {L : List OutputId}

/-- The review a lift asks for, when an output goes from CUT to OFF. -/
theorem leaveCut_asks {f : OutputId → Output} (hf : ∀ o, f o = if o ∈ L then (s.output o).lifted ch else s.output o)
    (h : ∃ o, (s.output o).state = .cut ∧ (f o).state = .off) : (!(s.leaveCut ch L).isEmpty) = true := by
  rw [Bool.not_eq_true', Bool.eq_false_iff, ne_eq, leaveCut_isEmpty]
  intro hall
  obtain ⟨o, hcut, hoff⟩ := h
  rw [hf] at hoff
  by_cases ho : o ∈ L
  · rw [if_pos ho, hall o ho hcut] at hoff; exact absurd hoff (by decide)
  · rw [if_neg ho, hcut] at hoff; exact absurd hoff (by decide)

theorem leaveCut_asks_not {f : OutputId → Output} (hf : ∀ o, f o = if o ∈ L then (s.output o).lifted ch else s.output o)
    (h : ∀ o, (s.output o).state = .cut → (f o).state = .cut) : (!(s.leaveCut ch L).isEmpty) = false := by
  rw [Bool.not_eq_false', leaveCut_isEmpty]
  intro o ho hcut
  have := h o hcut
  rwa [hf, if_pos ho] at this

end

/-! ### FAULT_CLEAR and LATCHED_LEVEL_CHANGE (R127, R131) -/

/-- Settles O50. -/
theorem clearAndLatchedChange : Obligations.ClearAndLatchedChange := by
  unfold Obligations.ClearAndLatchedChange
  intro s ch hrun hdue x
  refine ⟨fun hst hf => ?_, fun hst => ?_⟩
  · refine congrArg Host.Outcome.next ((if_pos ⟨hrun, hdue, hf, hst⟩).trans ?_)
    obtain ⟨h, -⟩ | ⟨-, -, h⟩ | ⟨-, h, -⟩ := levelChange_cases s ch
    · simp [show (s.fault ch).state = .tripped from hst] at h
    · rw [h, show (s.fault ch).filtered = true from hf]
      rfl
    · exact absurd ⟨hst, hf⟩ h
  · refine congrArg Host.Outcome.next ((if_pos ⟨hrun, hdue, hst⟩).trans ?_)
    obtain ⟨h, -⟩ | ⟨h, -⟩ | ⟨-, -, h⟩ := levelChange_cases s ch
    · simp [show (s.fault ch).state = .latched from hst] at h
    · simp [show (s.fault ch).state = .latched from hst] at h
    · exact h

/-! ### RECOVER_DUE and RELEASE_FAULT (R129, R132) -/

theorem recoverDue_of_recovering {s : State} {ch : FaultId} (h : (s.fault ch).state = .recovering) :
    s.recoverDue ch = s.recover ch := if_pos h

/-- The outputs once channel `ch` is removed from the cut-by sets of the set `S`. -/
def State.liftedOutput (s : State) (ch : FaultId) (S : OutputSet) (o : OutputId) : Output :=
  if S.getLsbD o then (s.output o).lifted ch else s.output o

theorem uncut_members (ch : FaultId) (S : OutputSet) (s : State) :
    s.uncut ch (members S) = { s with
      outputs := Vector.ofFn (s.liftedOutput ch S)
      gLines := Vector.ofFn fun o : OutputId => if S.getLsbD o then (s.liftedOutput ch S o).line else s.gLines[o] } := by
  rw [uncut_eq ch (members_nodup S)]
  refine State.eq_of_fields rfl rfl rfl rfl rfl ?_ rfl rfl rfl rfl rfl rfl ?_ rfl rfl <;>
    refine congrArg Vector.ofFn (funext fun o => ?_)
  · simp only [mem_members]; rfl
  · simp only [mem_members, State.liftedOutput]
    split <;> rfl

/-- The recovery of a channel: the cut lifted, the quiet period begun and the supervisor told, and a review where an output
left CUT (R129). -/
theorem recover_eq (s : State) (ch : FaultId) :
    s.recover ch = (State.notify { s with
      faults := s.faults.set ch { s.fault ch with state := .idle }
      outputs := Vector.ofFn (s.liftedOutput ch (s.fault ch).cutSet)
      gLines := Vector.ofFn fun o : OutputId =>
        if (s.fault ch).cutSet.getLsbD o then (s.liftedOutput ch (s.fault ch).cutSet o).line else s.gLines[o]
      expiry := insertEntry s.clock ⟨s.clock + BitVec.ofNat 32 (s.fault ch).quietPeriod, .quiet ch⟩ s.expiry } 0
        .fault).reviewIf (!(s.leaveCut ch (members (s.fault ch).cutSet)).isEmpty) := by
  rw [State.recover]
  dsimp only
  rw [uncut_members]
  rfl

/-- Settles O51. -/
theorem recoverLiftsTheCut : Obligations.RecoverLiftsTheCut := by
  unfold Obligations.RecoverLiftsTheCut
  intro s q ch hrun he hst x lifted t
  have hexec : exec (.recoverDue ch) s =
      .next (t.reviewIf (!(s.leaveCut ch (members x.cutSet)).isEmpty)) := by
    refine (exec_row_of_front (k := .recover ch) hrun he).trans (congrArg Host.Outcome.next ?_)
    exact (recoverDue_of_recovering (s := { s with expiry := q }) hst).trans (recover_eq { s with expiry := q } ch)
  have hlifted : ∀ o, lifted o = if o ∈ members x.cutSet then (s.output o).lifted ch else s.output o := fun o => by
    simp only [mem_members]; rfl
  refine ⟨fun h => ?_, fun h => ?_⟩ <;> rw [hexec]
  · rw [leaveCut_asks hlifted h]; rfl
  · rw [leaveCut_asks_not hlifted h]; rfl

@[simp] theorem toFault_byte (ch : FaultId) : toFault (byte ch) = some ch := toCount_byte ch

theorem toFault_eq_none {b : Byte} (h : 4 ≤ b.toNat) : toFault b = none := toCount_eq_none h

/-- RELEASE_FAULT of a LATCHED channel at an inactive level (R132). -/
theorem releaseFaultBody_latched {s : State} {ch : FaultId} (hst : (s.fault ch).state = .latched)
    (hf : (s.fault ch).filtered = false) :
    releaseFaultBody 0 [byte ch] s = (State.reviewIf { s with
      faults := s.faults.set ch { s.fault ch with state := .idle, tripCount := 0 }
      outputs := Vector.ofFn (s.liftedOutput ch (s.fault ch).cutSet)
      gLines := Vector.ofFn fun o : OutputId =>
        if (s.fault ch).cutSet.getLsbD o then (s.liftedOutput ch (s.fault ch).cutSet o).line else s.gLines[o] }
      (!(s.leaveCut ch (members (s.fault ch).cutSet)).isEmpty), .ok []) := by
  simp only [releaseFaultBody, toFault_byte, hst, hf]
  rw [uncut_members]
  rfl

/-- Settles O52. -/
theorem releaseFaultFreesALatchedChannel : Obligations.ReleaseFaultFreesALatchedChannel := by
  unfold Obligations.ReleaseFaultFreesALatchedChannel
  intro s f b hin hp
  have hkeeps : ∀ {st : Status}, releaseFaultBody 0 [b] s.linkDone = (s.linkDone, .refuse st) →
      s.Completes (.releaseFault f) f 0 0x38 s.linkDone st [] := fun hbody =>
    completes_of_body_keeps hin rfl rfl (by rw [hp]; rfl) (fun _ => rfl) (hp ▸ hbody)
  refine ⟨fun h4 => hkeeps ?_, ?_⟩
  · rw [releaseFaultBody, toFault_eq_none h4]
  rintro ch rfl x
  refine ⟨fun hst => hkeeps ?_, fun hst hf => hkeeps ?_, fun hst hf => ?_⟩
  · have hx : s.linkDone.fault ch = x := rfl
    simp only [releaseFaultBody, toFault_byte, hx]
    cases hs : x.state with
    | latched => exact absurd hs hst
    | _ => rfl
  · have hx : s.linkDone.fault ch = x := rfl
    simp only [releaseFaultBody, toFault_byte, hx, hst, hf]
  · intro lifted t
    have hlifted : ∀ o, lifted o = if o ∈ members x.cutSet then (s.linkDone.output o).lifted ch else s.linkDone.output o :=
      fun o => by simp only [mem_members]; rfl
    have hbody : releaseFaultBody 0 f.params s.linkDone =
        (t.reviewIf (!(s.linkDone.leaveCut ch (members x.cutSet)).isEmpty), .ok []) := by
      rw [hp]; exact releaseFaultBody_latched (s := s.linkDone) hst hf
    have hdone : ∀ {m : State}, releaseFaultBody 0 f.params s.linkDone = (m, .ok []) → Spares t m →
        s.Completes (.releaseFault f) f 0 0x38 m .ok [] := fun hb hm => by
      rw [State.Completes, show exec (.releaseFault f) s = .next (frameRow 0x38 (accept releaseFaultBody) f s) from rfl,
        command_result hin rfl (by rw [hp]; rfl) (fun _ => rfl) hb (by rw [hm.opened]; exact hin.isOpen) (hm.epoch 0)]
    refine ⟨fun h => ?_, fun h => ?_⟩
    · rw [leaveCut_asks hlifted h] at hbody
      exact hdone hbody (review_spares t)
    · rw [leaveCut_asks_not hlifted h] at hbody
      exact hdone hbody (.refl t)

/-! ### SET_FAULT (R134, R135) -/

theorem and_oneFault_ne_zero {x : FaultSet} {ch : FaultId} : x &&& oneFault ch ≠ 0 ↔ x.getLsbD ch = true := by
  constructor
  · intro h
    by_contra hno
    refine h (BitVec.eq_of_getLsbD_eq fun i hi => ?_)
    rw [BitVec.getLsbD_and, oneFault, BitVec.getLsbD_twoPow]
    by_cases hch : (ch : Nat) = i
    · subst hch; rw [Bool.eq_false_iff.mpr hno]; simp
    · simp [hch]
  · intro h h0
    have hbit := congrArg (fun y : FaultSet => y.getLsbD ch) h0
    simp only [BitVec.getLsbD_and, oneFault, BitVec.getLsbD_twoPow, h, ch.isLt] at hbit
    simp at hbit

theorem mem_cutByChannel {s : State} {ch : FaultId} {o : OutputId} :
    o ∈ s.cutByChannel ch ↔ (s.output o).cutBy.getLsbD ch = true := by
  simp only [State.cutByChannel, List.mem_filter, List.mem_finRange, true_and, bne_iff_ne, and_oneFault_ne_zero]

theorem cutByChannel_nodup (s : State) (ch : FaultId) : (s.cutByChannel ch).Nodup := (List.nodup_finRange 8).filter _

theorem unscheduleFault_eq (s : State) (ch : FaultId) :
    s.unscheduleFault ch = { s with expiry := s.expiry.filter fun e => e.key ≠ .recover ch ∧ e.key ≠ .quiet ch } := by
  simp only [State.unscheduleFault, State.unschedule, removeEntry, List.filter_filter]
  refine State.eq_of_fields rfl rfl rfl rfl rfl rfl rfl ?_ rfl rfl rfl rfl rfl rfl rfl
  refine List.filter_congr fun e _ => ?_
  simp [and_comm]

theorem reviewIf_empty {s : State} (h : s.waitQueue = []) (b : Bool) : s.reviewIf b = s := by
  cases b
  · rfl
  · exact review_empty h

/-- The restart of a channel while no request waits, as in SETUP (R135). -/
theorem restartFault_eq {s : State} (hq : s.waitQueue = []) (ch : FaultId) (x : FaultChannel) :
    s.restartFault ch x = { s with
      faults := s.faults.set ch x
      outputs := Vector.ofFn fun o : OutputId =>
        if (s.output o).cutBy.getLsbD ch then (s.output o).lifted ch else s.output o
      gLines := Vector.ofFn fun o : OutputId =>
        if (s.output o).cutBy.getLsbD ch then ((s.output o).lifted ch).line else s.gLines[o]
      expiry := s.expiry.filter fun e => e.key ≠ .recover ch ∧ e.key ≠ .quiet ch } := by
  rw [State.restartFault, unscheduleFault_eq]
  rw [uncut_eq ch (cutByChannel_nodup _ ch), reviewIf_empty (by exact hq)]
  simp only [mem_cutByChannel]
  rfl

theorem toFlag_ite (p : Bool) : toFlag (if p then 0x01 else 0x00) = some p := toFlag_bitByte p

/-- Settles O53. -/
theorem setFaultRestartsTheChannel : Obligations.SetFaultRestartsTheChannel := by
  unfold Obligations.SetFaultRestartsTheChannel
  intro s f b en al n cut r0 r1 lim q0 q1 q2 hin hp delay quiet
  have hdelay : u16 r0 r1 = delay := rfl
  have hquiet : u24 q0 q1 q2 = quiet := rfl
  have hkeeps : ∀ {st : Status}, setFaultBody 0 f.params s.linkDone = (s.linkDone, .refuse st) →
      s.Completes (.setFault f) f 0 0x34 s.linkDone st [] := fun hbody =>
    completes_of_body_keeps hin rfl rfl (by rw [hp]; rfl) (fun _ => rfl) hbody
  refine ⟨fun hrun => hkeeps (if_pos hrun), fun hsetup => ⟨fun hbad => hkeeps ?_, ?_⟩⟩
  all_goals have hmode : ¬s.linkDone.mode = .run := by rw [show s.linkDone.mode = _ from hsetup]; simp
  · rw [hp, setFaultBody, if_neg hmode]
    split
    next ch on low hb hen hal =>
      refine if_neg fun ⟨h1, h2, h3, h4, h5, h6, h7, h8⟩ => ?_
      have hb' : b.toNat < 4 := by by_contra h; simp [toFault_eq_none (Nat.le_of_not_lt h)] at hb
      have hen' : en.toNat < 2 := by by_contra h; simp [toFlag_eq_none (Nat.le_of_not_lt h)] at hen
      have hal' : al.toNat < 2 := by by_contra h; simp [toFlag_eq_none (Nat.le_of_not_lt h)] at hal
      rw [hdelay] at h3 h4
      rw [hquiet] at h7 h8
      simp only [Config.maxWait, Config.maxTicks] at h4 h8
      omega
    next => rfl
  · rintro ch on low hq rfl rfl rfl h1 h2 h3 h4 h5 h6 h7 h8
    intro lifted
    have hbody : setFaultBody 0 f.params s.linkDone = (s.linkDone.restartFault ch
        ⟨on, !low, n.toNat, cut, delay, lim.toNat, quiet, .idle, 0, false, 0, false⟩, .ok []) := by
      rw [hp, setFaultBody, if_neg hmode]
      rw [toFault_byte, toFlag_ite, toFlag_ite]
      exact if_pos ⟨h1, h2, h3, h4, h5, h6, h7, h8⟩
    have hlines : (Vector.ofFn fun o : OutputId =>
        if (s.output o).cutBy.getLsbD ch then ((s.output o).lifted ch).line else s.gLines[o]) =
        Vector.ofFn fun o : OutputId => if (s.output o).cutBy.getLsbD ch then (lifted o).line else s.gLines[o] := by
      refine congrArg Vector.ofFn (funext fun o => ?_)
      by_cases ho : (s.output o).cutBy.getLsbD ch = true
      · simp only [lifted, if_pos ho]; rfl
      · rw [if_neg ho, if_neg ho]
    rw [restartFault_eq (s := s.linkDone) hq] at hbody
    rw [← hlines]
    exact completes_of_body hin rfl rfl (by rw [hp]; rfl) (fun _ => rfl) hbody rfl

end Sys2Proof.Machine
end

section
/-! SUPPORT. The review (3.4): what a grant changes, that the review is one pass of grants, and that one pass is enough. -/

namespace Sys2Proof.Machine

/-! ### A grant (R60) -/

/-- Outputs of which none falls: the SETTLE entries of those that rise go, and the queue is otherwise as it was. -/
theorem expiry_foldl_recompute_of_no_fall {L : List OutputId} (hL : L.Nodup) {s : State}
    (h : ∀ o ∈ L, s.fallsToSettle o = false) :
    (L.foldl State.recompute s).expiry = s.expiry.filter fun e => !L.any fun o => e.key == .settle o && s.risesFromSettle o := by
  induction L generalizing s with
  | nil => simp
  | cons o L ih =>
    obtain ⟨ho, hL⟩ := List.nodup_cons.mp hL
    have hne : ∀ p ∈ L, o ≠ p := by rintro p hp rfl; exact ho hp
    have hrises : ∀ e : Entry, (L.any fun p => e.key == .settle p && (s.recompute o).risesFromSettle p) =
        L.any fun p => e.key == .settle p && s.risesFromSettle p := fun e => by
      rw [Bool.eq_iff_iff]
      simp only [List.any_eq_true]
      exact exists_congr fun p => and_congr_right fun hp => by rw [(State.followed_recompute (hne p hp)).2.1]
    have hfalls : ∀ p ∈ L, (s.recompute o).fallsToSettle p = false := fun p hp => by
      rw [(State.followed_recompute (hne p hp)).2.2.1]; exact h p (List.mem_cons_of_mem _ hp)
    rw [List.foldl_cons, ih hL hfalls, State.expiry_recompute]
    simp only [hrises, State.settleQueue, h o List.mem_cons_self, Bool.false_eq_true, if_false]
    by_cases hr : s.risesFromSettle o = true
    · rw [if_pos hr, removeEntry, List.filter_filter]
      refine List.filter_congr fun e _ => ?_
      by_cases he : e.key = .settle o <;> simp [hr, he]
    · rw [if_neg hr]
      simp [hr]

theorem State.fallsToSettle_of_held {s : State} {o : OutputId} (h : s.held o = true) : s.fallsToSettle o = false := by
  cases hs : (s.output o).state <;> simp [State.fallsToSettle, h, hs, Output.follow]

/-- The outputs of a request just granted are held by it. -/
theorem State.held_grantedSlot (s : State) (i : SlotId) (l : Lease) {o : OutputId} (ho : l.outputs.getLsbD o = true) :
    (s.grantedSlot i l).held o = true := by
  refine State.held_iff.mpr ⟨i, State.slotHolds_iff.mpr ⟨l.granted s.clock, ?_, rfl, ho⟩⟩
  have h := State.leaseAt_of_set (s := s) (t := s.grantedSlot i l) (i := i) (x := ⟨(s.slot i).generation, some (l.granted s.clock)⟩) rfl i
  rw [h, if_pos rfl]

theorem granted_grantWaiting (s : State) (i : SlotId) (l : Lease) : Granted s i l (s.grantWaiting i l) := by
  have hfollow := outputsFollow_recomputeAll (s.grantedSlot i l) l.outputs
  have hmem : ∀ (o : OutputId) (e : Entry), e.key = .settle o → (e ∈ (s.grantedSlot i l).expiry ↔ e ∈ s.expiry) := by
    intro o e he
    have hne : e ≠ ⟨s.clock + BitVec.ofNat 32 l.term, .lease i⟩ := by rintro rfl; simp at he
    simp [State.grantedSlot, mem_insertEntry, mem_removeEntry, hne, he]
  exact {
    toSpares := grantWaiting_spares s i l
    slots := grantWaiting_slots s i l
    waitQueue := by rw [grantWaiting_eq, notify_waitQueue, recomputeAll_waitQueue]; rfl
    outputs := by
      rw [grantWaiting_eq]
      refine OutputsFollow.of_eq ⟨hfollow.outputs, hfollow.lines, fun o e he => (hfollow.settles o e he).trans ?_⟩
        (notify_outputs ..) (notify_gLines ..) (notify_slots ..) (notify_expiry ..)
      exact or_congr (and_congr_left' (hmem o e he)) Iff.rfl
    expiry := by
      have hrise : ∀ e, s.riseEntry (s.grantWaiting i l) e =
          (members l.outputs).any fun o => e.key == .settle o && (s.grantedSlot i l).risesFromSettle o := fun e => by
        rw [← State.riseEntry_recomputeAll]
        have hout : ∀ o, (s.grantWaiting i l).output o = ((s.grantedSlot i l).recomputeAll l.outputs).output o := fun o => by
          rw [grantWaiting_eq, State.output, notify_outputs, State.output]
        simp only [State.riseEntry, hout]
        rfl
      simp only [hrise]
      rw [grantWaiting_eq, notify_expiry, State.recomputeAll, expiry_foldl_recompute_of_no_fall (members_nodup _)
        fun o ho => State.fallsToSettle_of_held (s.held_grantedSlot i l (mem_members.mp ho))]
      rfl
    sessions := fun c => by
      have hses : ∀ d, ((s.grantedSlot i l).recomputeAll l.outputs).session d = s.session d := fun d => by
        rw [State.session, recomputeAll_sessions, State.session]; rfl
      rw [grantWaiting_eq, State.session_notify, State.isOpen]
      simp only [hses]
      by_cases hc : c = l.holder
      · subst hc; rfl
      · simp [hc]
    atnLow := by
      have hopen : ((s.grantedSlot i l).recomputeAll l.outputs).isOpen l.holder = s.isOpen l.holder := by
        rw [State.isOpen, State.session, recomputeAll_sessions, State.isOpen, State.session]; rfl
      rw [grantWaiting_eq, State.atnLow_notify, hopen, recomputeAll_atnLow]
      rfl }

/-! ### The pass (R59) -/

theorem State.waitingAt_iff {s : State} {i : SlotId} :
    s.waitingAt i = true ↔ ∃ l, s.leaseAt i = some l ∧ l.phase.isWaiting = true := by
  rw [State.waitingAt_eq, Option.any_eq_true]

/-- The review's walk over waiting slots, each once, is a pass. -/
theorem pass_reviewFrom {rest : List SlotId} (hnd : rest.Nodup) {ahead : List SlotId} {s : State}
    (hw : ∀ i ∈ rest, s.waitingAt i = true) : Pass ahead rest s (reviewFrom ahead rest s) := by
  induction rest generalizing ahead s with
  | nil => exact .done ahead s
  | cons i rest ih =>
    obtain ⟨hi, hnd⟩ := List.nodup_cons.mp hnd
    obtain ⟨l, hl, hwait⟩ := State.waitingAt_iff.mp (hw i List.mem_cons_self)
    have hrest : ∀ j ∈ rest, s.waitingAt j = true := fun j hj => hw j (List.mem_cons_of_mem _ hj)
    rw [reviewFrom, hl]
    dsimp only
    cases ha : s.admissible ahead l.outputs l.kind with
    | true =>
      rw [if_pos (by simp [hwait])]
      refine .grant hl hwait ha (granted_grantWaiting s i l) (ih hnd fun j hj => ?_)
      have hne : i ≠ j := by rintro rfl; exact hi hj
      rw [State.waitingAt_eq, s.leaseAt_grantWaiting, if_neg hne, ← State.waitingAt_eq]
      exact hrest j hj
    | false =>
      rw [if_neg (by simp)]
      exact .stay hl hwait ha (ih hnd hrest)

theorem pass_review {s : State} (h : s.QueueLaw) : Pass [] s.waitQueue s s.review :=
  pass_reviewFrom h.2.1 fun i hi => (h.1 i).mp hi

/-! ### What lasts through a pass -/

theorem noticeSet_or_and_ne_zero {n m k : NoticeSet} (h : n &&& k ≠ 0) : (n ||| m) &&& k ≠ 0 := by
  contrapose! h
  refine BitVec.eq_of_getLsbD_eq fun i hi => ?_
  have hbit := congrArg (fun x : NoticeSet => x.getLsbD i) h
  simp only [BitVec.getLsbD_and, BitVec.getLsbD_or] at hbit ⊢
  cases hn : n.getLsbD i <;> simp_all

theorem Notice.bit_ne_zero (k : Notice) : k.bit ≠ 0 := by cases k <;> decide

/-- A notice just set is pending. -/
theorem noticeSet_or_bit (n : NoticeSet) (k : Notice) : (n ||| k.bit) &&& k.bit ≠ 0 := by
  rw [BitVec.or_comm]
  exact noticeSet_or_and_ne_zero (by rw [BitVec.and_self]; exact k.bit_ne_zero)

/-- What grants leave once it is there: LEASE entries stay, no WAIT entry appears, GRANTED stays pending and the queue only
loses entries. -/
structure Onward (s u : State) : Prop where
  leases : ∀ e i, e.key = .lease i → e ∈ s.expiry → e ∈ u.expiry
  waits : ∀ e i, e.key = .wait i → e ∈ u.expiry → e ∈ s.expiry
  granted : ∀ c, (s.session c).notices &&& Notice.bit .granted ≠ 0 → (u.session c).notices &&& Notice.bit .granted ≠ 0
  queue : u.waitQueue.Sublist s.waitQueue

theorem Onward.refl (s : State) : Onward s s := ⟨fun _ _ _ h => h, fun _ _ _ h => h, fun _ h => h, .refl _⟩

theorem Onward.trans {s t u : State} (h : Onward s t) (k : Onward t u) : Onward s u where
  leases e i he hm := k.leases e i he (h.leases e i he hm)
  waits e i he hm := h.waits e i he (k.waits e i he hm)
  granted c hc := k.granted c (h.granted c hc)
  queue := k.queue.trans h.queue

section
variable {s t : State} {i : SlotId} {l : Lease}

theorem Granted.mem_expiry (h : Granted s i l t) {e : Entry} (he : e.key.isSettle = false) :
    e ∈ t.expiry ↔ e = ⟨s.clock + BitVec.ofNat 32 l.term, .lease i⟩ ∨ (e ∈ s.expiry ∧ e.key ≠ .wait i) := by
  have hrise : s.riseEntry t e = false := by
    rw [State.riseEntry, List.any_eq_false]
    intro o _
    have hne : e.key ≠ .settle o := by intro hk; simp [hk, Key.isSettle] at he
    simp [hne]
  rw [h.expiry, List.mem_filter, hrise, mem_insertEntry, List.mem_filter]
  simp

theorem Granted.onward (h : Granted s i l t) : Onward s t where
  leases e j he hm := (h.mem_expiry (by rw [he]; rfl)).mpr (.inr ⟨hm, by rw [he]; simp⟩)
  waits e j he hm := by
    obtain rfl | ⟨hm, -⟩ := (h.mem_expiry (by rw [he]; rfl)).mp hm
    · simp at he
    · exact hm
  granted c hc := by
    rw [h.sessions]
    split
    · exact noticeSet_or_and_ne_zero hc
    · exact hc
  queue := by rw [h.waitQueue]; exact List.erase_sublist

theorem Granted.slot_of_ne (h : Granted s i l t) {j : SlotId} (hj : i ≠ j) : t.slot j = s.slot j := by
  rw [State.slot_of_set h.slots, if_neg hj]

theorem Granted.leaseAt_of_ne (h : Granted s i l t) {j : SlotId} (hj : i ≠ j) : t.leaseAt j = s.leaseAt j := by
  rw [State.leaseAt_of_set h.slots, if_neg hj]

end

theorem Pass.onward {ahead rest : List SlotId} {s u : State} (h : Pass ahead rest s u) : Onward s u := by
  induction h with
  | done => exact .refl _
  | grant _ _ _ hg _ ih => exact hg.onward.trans ih
  | stay _ _ _ _ ih => exact ih

theorem Pass.spares {ahead rest : List SlotId} {s u : State} (h : Pass ahead rest s u) : Spares s u := by
  induction h with
  | done => exact .refl _
  | grant _ _ _ hg _ ih => exact hg.toSpares.trans ih
  | stay _ _ _ _ ih => exact ih

/-- A request granted between `s` and `u`: what its slot, its entries and its holder show (R60). -/
def GrantedBetween (s u : State) (i : SlotId) : Prop :=
  ∃ l w, s.leaseAt i = some l ∧ l.phase = .waiting w ∧ i ∈ s.waitQueue ∧ i ∉ u.waitQueue ∧
    u.slot i = ⟨(s.slot i).generation, some { l with phase := .live s.clock (s.clock + BitVec.ofNat 32 l.term) }⟩ ∧
    ⟨s.clock + BitVec.ofNat 32 l.term, .lease i⟩ ∈ u.expiry ∧
    (∀ e ∈ u.expiry, e.key ≠ .wait i) ∧
    (s.isOpen l.holder = true → (u.session l.holder).notices &&& Notice.bit .granted ≠ 0)

theorem Granted.between {s t u : State} {i : SlotId} {l : Lease} (h : Granted s i l t) (hl : s.leaseAt i = some l)
    (hw : l.phase.isWaiting = true) (hi : i ∈ s.waitQueue) (hnd : s.waitQueue.Nodup) (hu : Onward t u)
    (hslot : u.slot i = t.slot i) : GrantedBetween s u i := by
  obtain ⟨w, hphase⟩ : ∃ w, l.phase = .waiting w := by
    cases hp : l.phase with
    | waiting w => exact ⟨w, rfl⟩
    | _ => simp [hp, Phase.isWaiting] at hw
  refine ⟨l, w, hl, hphase, hi, fun hin => ?_, ?_, ?_, fun e he hk => ?_, fun hopen => hu.granted _ ?_⟩
  · have := hu.queue.mem hin
    rw [h.waitQueue] at this
    exact hnd.not_mem_erase this
  · rw [hslot, State.slot_of_set h.slots, if_pos rfl]
  · exact hu.leases _ i rfl ((h.mem_expiry rfl).mpr (.inl rfl))
  · obtain rfl | ⟨-, hne⟩ := (h.mem_expiry (by rw [hk]; rfl)).mp (hu.waits e i hk he)
    · simp at hk
    · exact hne hk
  · rw [h.sessions, if_pos ⟨rfl, hopen⟩]
    exact noticeSet_or_bit _ _

/-- Each slot that a pass tests is as it was or granted, and the others are as they were. -/
theorem Pass.slots {ahead rest : List SlotId} {s u : State} (h : Pass ahead rest s u) (hrest : rest.Nodup)
    (hin : ∀ i ∈ rest, i ∈ s.waitQueue) (hnd : s.waitQueue.Nodup) (i : SlotId) :
    u.slot i = s.slot i ∨ (i ∈ rest ∧ GrantedBetween s u i) := by
  induction h with
  | done => exact .inl rfl
  | @grant ahead rest j l s t u hl hw _ hg hpass ih =>
    obtain ⟨hj, hrest⟩ := List.nodup_cons.mp hrest
    have hqueue : t.waitQueue = s.waitQueue.erase j := hg.waitQueue
    have hin' : ∀ k ∈ rest, k ∈ t.waitQueue := fun k hk => by
      rw [hqueue, hnd.mem_erase_iff]
      exact ⟨by rintro rfl; exact hj hk, hin k (List.mem_cons_of_mem _ hk)⟩
    have hnd' : t.waitQueue.Nodup := hqueue ▸ hnd.erase j
    obtain hsame | ⟨hi, l', w, hl', hphase, hiq, hout, hslot, hlease, hwait, hnote⟩ := ih hrest hin' hnd'
    · by_cases hij : j = i
      · subst hij
        exact .inr ⟨List.mem_cons_self, hg.between hl hw (hin _ List.mem_cons_self) hnd hpass.onward hsame⟩
      · exact .inl (hsame.trans (hg.slot_of_ne hij))
    · have hij : j ≠ i := by rintro rfl; exact hj hi
      rw [hg.leaseAt_of_ne hij] at hl'
      rw [hg.slot_of_ne hij, hg.clock] at hslot
      rw [hg.clock] at hlease
      rw [State.isOpen, hg.opened, ← State.isOpen] at hnote
      exact .inr ⟨List.mem_cons_of_mem _ hi, l', w, hl', hphase, hg.onward.queue.mem hiq, hout, hslot, hlease, hwait, hnote⟩
  | stay _ _ _ _ ih =>
    obtain ⟨hj, hrest⟩ := List.nodup_cons.mp hrest
    obtain hsame | ⟨hi, hgr⟩ := ih hrest (fun k hk => hin k (List.mem_cons_of_mem _ hk)) hnd
    · exact .inl hsame
    · exact .inr ⟨List.mem_cons_of_mem _ hi, hgr⟩

/-- Settles O22: the review is a pass, and a pass grants each slot at most once. -/
theorem reviewGrantsWaitingRequests : Obligations.ReviewGrantsWaitingRequests := by
  unfold Obligations.ReviewGrantsWaitingRequests
  intro s hq
  have hpass := pass_review hq
  refine ⟨hpass, hpass.spares, hpass.onward.queue, fun i => ?_⟩
  exact (hpass.slots hq.2.1 (fun _ h => h) hq.2.1 i).imp id And.right

/-! ### One pass is enough (R59) -/

section
variable {s t : State} {i : SlotId} {l : Lease} {ahead : List SlotId}

theorem Granted.slotHolds (h : Granted s i l t) (o : OutputId) (j : SlotId) :
    t.slotHolds o j = if i = j then l.outputs.getLsbD o else s.slotHolds o j := by
  unfold State.slotHolds
  rw [State.leaseAt_of_set h.slots]
  by_cases hj : i = j
  · simp only [if_pos hj, Lease.holds, Phase.isLive, Bool.true_and]
  · simp only [if_neg hj]

theorem Granted.slotSole (h : Granted s i l t) (hl : s.leaseAt i = some l) (j : SlotId) : t.slotSole j = s.slotSole j := by
  unfold State.slotSole
  rw [State.leaseAt_of_set h.slots]
  by_cases hj : i = j
  · subst hj; simp only [if_pos, hl]
  · simp only [if_neg hj]

theorem Granted.outputsOf (h : Granted s i l t) (hl : s.leaseAt i = some l) (j : SlotId) :
    t.outputsOf j = s.outputsOf j := by
  unfold State.outputsOf
  rw [State.leaseAt_of_set h.slots]
  by_cases hj : i = j
  · subst hj; simp only [if_pos, hl]
  · simp only [if_neg hj]

/-- The outputs of a granted lease are held by it. -/
theorem Granted.held (h : Granted s i l t) {o : OutputId} (ho : l.outputs.getLsbD o = true) : t.held o = true :=
  State.held_iff.mpr ⟨i, by rw [h.slotHolds, if_pos rfl, ho]⟩

/-- A grant puts no output out of CUT, and none of those ON or in SETTLE elsewhere (R32). -/
theorem Granted.state (h : Granted s i l t) (o : OutputId) :
    ((s.output o).state = .cut → (t.output o).state = .cut) ∧
    ((s.output o).state = .on ∨ (s.output o).state = .settle → (t.output o).state = .on ∨ (t.output o).state = .settle) := by
  rw [h.outputs.outputs]
  by_cases ho : l.outputs.getLsbD o = true
  · rw [if_pos ho, h.held ho]
    cases hs : (s.output o).state <;> simp [Output.follow, hs]
  · rw [if_neg ho]
    exact ⟨id, id⟩

/-- A grant takes no holder from an output, and leaves one that is sole-held so: the test let no other lease join it. -/
theorem Granted.soleHeld (h : Granted s i l t) (hl : s.leaseAt i = some l) (hw : l.phase.isWaiting = true)
    (ha : s.admissible ahead l.outputs l.kind = true) {o : OutputId} (hsole : s.soleHeld o = true) : t.soleHeld o = true := by
  obtain ⟨j, hj, honly⟩ := State.soleHeld_iff.mp hsole
  have hnot : l.outputs.getLsbD o = false := by
    rw [Bool.eq_false_iff]
    intro ho
    obtain ⟨-, hkind, -⟩ := State.admissible_facts ha
    cases hk : l.kind with
    | sole => exact absurd ((State.held_eq_false.mp ((hkind o ho).1 hk) j).symm.trans ((honly j).mpr rfl)) (by decide)
    | shared => exact absurd (((hkind o ho).2 hk).symm.trans hsole) (by decide)
  have hwaits : s.slotHolds o i = false := by
    simp [State.slotHolds, hl, Lease.holds, Phase.not_live_of_waiting hw]
  refine State.soleHeld_iff.mpr ⟨j, by rw [h.slotSole hl, hj], fun k => ?_⟩
  rw [h.slotHolds, ← honly k]
  by_cases hk : i = k
  · subst hk; rw [if_pos rfl, hnot, hwaits]
  · rw [if_neg hk]

/-- What a request is blocked by before a grant it is blocked by after it (R59). -/
theorem Granted.admissible_of (h : Granted s i l t) (hl : s.leaseAt i = some l) (hw : l.phase.isWaiting = true)
    (ha : s.admissible ahead l.outputs l.kind = true) {older : List SlotId} {S : OutputSet} {k : Kind}
    (ht : t.admissible older S k = true) : s.admissible older S k = true := by
  simp only [State.admissible, Bool.and_eq_true, Bool.not_eq_true'] at ht ⊢
  obtain ⟨⟨⟨hcut, hkind⟩, hbusy⟩, hover⟩ := ht
  have hwaits : ∀ o, s.slotHolds o i = false := fun o => by
    simp [State.slotHolds, hl, Lease.holds, Phase.not_live_of_waiting hw]
  refine ⟨⟨⟨?_, ?_⟩, ?_⟩, ?_⟩
  · rw [State.anyCut_eq_false] at hcut ⊢
    exact fun o ho hs => hcut o ho ((h.state o).1 hs)
  · simp only [State.kindFree, List.all_eq_true] at hkind ⊢
    intro o ho
    have hfree := hkind o ho
    cases k with
    | sole =>
      simp only [Bool.not_eq_true', State.held_eq_false] at hfree ⊢
      intro j
      by_cases hj : i = j
      · subst hj; exact hwaits o
      · have := hfree j; rwa [h.slotHolds, if_neg hj] at this
    | shared =>
      simp only [Bool.not_eq_true', Bool.eq_false_iff] at hfree ⊢
      exact fun hs => hfree (h.soleHeld hl hw ha hs)
  · rw [State.partnerBusy_eq_false] at hbusy ⊢
    intro o p ho hp
    obtain ⟨hon, hsettle⟩ := hbusy o p ho (by rw [h.partners]; exact hp)
    refine ⟨fun hs => ?_, fun hs => ?_⟩
    · exact ((h.state p).2 (.inl hs)).elim hon hsettle
    · exact ((h.state p).2 (.inr hs)).elim hon hsettle
  · rw [State.overtakes_eq_false] at hover ⊢
    intro j hj o ho
    have hno := hover j hj o (by rw [h.outputsOf hl]; exact ho)
    exact ⟨hno.1, fun p hp => by have := hno.2 p hp; rwa [h.partners] at this⟩

end

/-- No entry of the list is admissible against those ahead of it. -/
def Blocked (s : State) (queue : List SlotId) : Prop :=
  ∀ older j younger l, queue = older ++ j :: younger → s.leaseAt j = some l → s.admissible older l.outputs l.kind = false

theorem Pass.blocked {ahead rest : List SlotId} {s u : State} (h : Pass ahead rest s u) (hqueue : s.waitQueue = ahead ++ rest)
    (hnd : (ahead ++ rest).Nodup) (hb : Blocked s ahead) : Blocked u u.waitQueue := by
  induction h with
  | done ahead s => rw [hqueue, List.append_nil]; exact hb
  | @grant ahead rest i l s t u hl hw ha hg _ ih =>
    have hi : i ∉ ahead := fun hin => (List.nodup_append.mp hnd).2.2 i hin i List.mem_cons_self rfl
    refine ih ?_ (hnd.sublist (by simp)) fun older j younger l' hsplit hl' => ?_
    · rw [hg.waitQueue, hqueue, List.erase_append_right _ hi, List.erase_cons_head]
    · have hij : i ≠ j := by rintro rfl; exact hi (by rw [hsplit]; simp)
      rw [hg.leaseAt_of_ne hij] at hl'
      rw [Bool.eq_false_iff]
      intro ht
      exact absurd ((hb older j younger l' hsplit hl').symm.trans (hg.admissible_of hl hw ha ht)) (by decide)
  | @stay ahead rest i l s u hl hw ha _ ih =>
    refine ih (by rw [hqueue]; simp) (by simpa using hnd) fun older j younger l' hsplit hl' => ?_
    obtain rfl | ⟨younger', k, rfl⟩ := List.eq_nil_or_concat younger
    · obtain ⟨rfl, hlast⟩ := List.append_inj' hsplit rfl
      obtain rfl : i = j := by simpa using hlast
      obtain rfl := Option.some.inj (hl.symm.trans hl')
      exact ha
    · have hsplit' : ahead ++ [i] = (older ++ j :: younger') ++ [k] := by rw [hsplit]; simp
      exact hb older j younger' l' (List.append_inj' hsplit' rfl).1 hl'

/-- Settles O21: what blocks a request at its turn blocks it to the end of the pass. -/
theorem reviewLeavesNothingToGrant : Obligations.ReviewLeavesNothingToGrant := by
  unfold Obligations.ReviewLeavesNothingToGrant
  intro s older younger i l hq hsplit hl
  have hnone : Blocked s [] := fun older j younger l h => by simp at h
  exact (pass_review hq).blocked rfl hq.2.1 hnone older i younger l hsplit hl

end Sys2Proof.Machine
end

section
/-! SUPPORT. What a review does to the slots, entries, outputs and sessions of any state; folds of ends of leases over a list
of slots; and a counted edge (R94 to R96). -/

namespace Sys2Proof.Machine

/-! ### The review of any state -/

/-- A slot is as it was, or it held a waiting request that is now live. -/
theorem State.slot_review (s : State) (i : SlotId) :
    s.review.slot i = s.slot i ∨ (s.waitingAt i = true ∧ s.review.liveAt i = true) := by
  have hstep : ∀ t : State, (t.slot i = s.slot i ∨ (s.waitingAt i = true ∧ t.liveAt i = true)) →
      ∀ j l, t.leaseAt j = some l → l.phase.isWaiting = true →
      (t.grantWaiting j l).slot i = s.slot i ∨ (s.waitingAt i = true ∧ (t.grantWaiting j l).liveAt i = true) := by
    intro t ht j l hl hw
    have hg := granted_grantWaiting t j l
    by_cases hj : j = i
    · subst hj
      have hwaits : t.waitingAt j = true := State.waitingAt_iff.mpr ⟨l, hl, hw⟩
      refine .inr ⟨?_, ?_⟩
      · obtain hsame | ⟨hs, -⟩ := ht
        · rwa [State.waitingAt, State.leaseAt, ← hsame, ← State.leaseAt, ← State.waitingAt]
        · exact hs
      · rw [State.liveAt_eq, State.leaseAt_of_set hg.slots, if_pos rfl]
        rfl
    · rw [hg.slot_of_ne hj, State.liveAt_eq, hg.leaseAt_of_ne hj, ← State.liveAt_eq]
      exact ht
  exact reviewFrom_keeps (P := fun t => t.slot i = s.slot i ∨ (s.waitingAt i = true ∧ t.liveAt i = true))
    (fun hl hw _ ht => hstep _ ht _ _ hl hw) [] s.waitQueue (.inl rfl)

theorem State.slot_review_of_not_waiting {s : State} {i : SlotId} (h : s.waitingAt i = false) :
    s.review.slot i = s.slot i :=
  (s.slot_review i).resolve_right fun ⟨hw, _⟩ => absurd (h.symm.trans hw) (by decide)

/-- A fact kept by every grant holds after a review, whether one is asked for or not. -/
theorem reviewIf_keeps {P : State → Prop} (hgrant : ∀ {s i l t}, Granted s i l t → P s → P t) {s : State} (b : Bool)
    (hs : P s) : P (s.reviewIf b) := by
  cases b
  · exact hs
  · exact reviewFrom_keeps (fun {t i l _} _ _ _ h => hgrant (granted_grantWaiting t i l) h) [] s.waitQueue hs

/-- The slots after a review that may have been asked for. -/
theorem State.slot_reviewIf (s : State) (b : Bool) (i : SlotId) :
    (s.reviewIf b).slot i = s.slot i ∨ (s.waitingAt i = true ∧ (s.reviewIf b).liveAt i = true) := by
  cases b
  · exact .inl rfl
  · exact s.slot_review i

theorem State.slot_reviewIf_of_not_waiting {s : State} {i : SlotId} (h : s.waitingAt i = false) (b : Bool) :
    (s.reviewIf b).slot i = s.slot i :=
  (s.slot_reviewIf b i).resolve_right fun ⟨hw, _⟩ => absurd (h.symm.trans hw) (by decide)

/-! ### Ends of the leases of a list -/

theorem State.generation_endLease (s : State) (i j : SlotId) (why : EndReason) (d : Option FaultId) :
    ((s.endLease i why d).slot j).generation = (s.slot j).generation := by
  rw [State.slot_of_set (endLease_slots s i why d)]
  split
  next h => rw [h]
  next => rfl

theorem State.slot_foldl_endLease (why : EndReason) (d : Option FaultId) {L : List SlotId} (hL : L.Nodup) (s : State)
    (j : SlotId) : (L.foldl (fun t i => t.endLease i why d) s).slot j =
      if j ∈ L then ⟨(s.slot j).generation, (s.leaseAt j).map fun l => l.afterEnd why s.clock d⟩ else s.slot j := by
  have hgen : ((L.foldl (fun t i => t.endLease i why d) s).slot j).generation = (s.slot j).generation := by
    clear hL
    induction L generalizing s with
    | nil => rfl
    | cons i L ih => rw [List.foldl_cons, ih, State.generation_endLease]
  rw [← State.slot_eta, hgen, State.leaseAt_foldl_endLease why d hL]
  split
  · rfl
  · rfl

theorem foldl_endLease_spares (why : EndReason) (d : Option FaultId) (L : List SlotId) (s : State) :
    Spares s (L.foldl (fun t i => t.endLease i why d) s) :=
  Spares.foldl (fun t i => endLease_spares t i why d) L s

/-- The record of a waiting or live lease after its end. -/
theorem Lease.afterEnd_active {l : Lease} (h : l.phase.isWaiting = true ∨ l.phase.isLive = true) (why : EndReason) (now : Tick)
    (d : Option FaultId) : l.afterEnd why now d = { l with phase := .ended l.phase.grantedAt why now d } := by
  rw [Lease.afterEnd, if_pos (by simpa using h)]
  rfl

/-- A slot that is ended in a list of ends is no waiting request then, and no other slot becomes one. -/
theorem State.waitingAt_foldl_endLease (why : EndReason) (d : Option FaultId) {L : List SlotId} (hL : L.Nodup) (s : State)
    (j : SlotId) : (L.foldl (fun t i => t.endLease i why d) s).waitingAt j = (decide (j ∉ L) && s.waitingAt j) := by
  rw [State.waitingAt_eq, State.leaseAt_foldl_endLease why d hL, State.waitingAt_eq]
  by_cases hj : j ∈ L
  · cases s.leaseAt j <;> simp [hj, (Lease.afterEnd_inactive _ _ _ _).1]
  · simp [hj]

/-! ### The lease table replaced, with the same claims -/

theorem State.slotHolds_of_set {s t : State} {i : SlotId} {x : Slot} (h : t.slots = s.slots.set i x) (o : OutputId)
    (j : SlotId) : t.slotHolds o j = if i = j then x.lease.any fun l => l.holds o else s.slotHolds o j := by
  unfold State.slotHolds
  rw [State.leaseAt_of_set h]
  by_cases hij : i = j
  · rw [if_pos hij, if_pos hij]; cases x.lease <;> rfl
  · rw [if_neg hij, if_neg hij]

section
variable {s : State} {v : Vector Slot 32}

theorem recompute_slots_replaced {o : OutputId} (h : State.held { s with slots := v } o = s.held o) :
    State.recompute { s with slots := v } o = { s.recompute o with slots := v } := by
  have hout : State.output { s with slots := v } o = s.output o := rfl
  have hfollowed : State.followed { s with slots := v } o = s.followed o := by rw [State.followed, h, hout, State.followed]
  have hqueue : State.settleQueue { s with slots := v } o = s.settleQueue o := by
    simp only [State.settleQueue, State.risesFromSettle, State.fallsToSettle, h, hout]
    rfl
  rw [State.recompute_eq, State.recompute_eq, hfollowed, hqueue, hout]
  split <;> rfl

theorem recomputeAll_slots_replaced (h : ∀ o, State.held { s with slots := v } o = s.held o) (S : OutputSet) :
    State.recomputeAll { s with slots := v } S = { s.recomputeAll S with slots := v } := by
  unfold State.recomputeAll
  generalize members S = L
  induction L generalizing s with
  | nil => rfl
  | cons o L ih =>
    rw [List.foldl_cons, recompute_slots_replaced (h o), ih, List.foldl_cons]
    intro p
    rw [s.held_recompute, ← h p]
    exact State.held_congr rfl p

theorem notify_slots_replaced (c : Client) (k : Notice) :
    State.notify { s with slots := v } c k = { s.notify c k with slots := v } := by
  unfold State.notify
  have hopen : State.isOpen { s with slots := v } c = s.isOpen c := rfl
  rw [hopen]
  split <;> rfl

theorem tellEnd_slots_replaced (l : Lease) (h : Handle) :
    State.tellEnd { s with slots := v } l h = { s.tellEnd l h with slots := v } := by
  unfold State.tellEnd
  split
  · have hended := notify_slots_replaced (s := s.setOutcome l.holder h .voided) (v := v) l.holder .ended
    exact (congrArg (State.notify · l.holder .offerOut) hended).trans (notify_slots_replaced l.holder .offerOut)
  · exact notify_slots_replaced ..

/-- The end of a lease reads of the other slots only which outputs they hold. -/
theorem endLease_slots_replaced {i : SlotId} {l : Lease} (hl : s.leaseAt i = some l)
    (ha : l.phase.isWaiting = true ∨ l.phase.isLive = true) (hi : State.slot { s with slots := v } i = s.slot i)
    (hh : ∀ o j, State.slotHolds { s with slots := v } o j = s.slotHolds o j) (why : EndReason) (d : Option FaultId) :
    State.endLease { s with slots := v } i why d =
      { s.endLease i why d with slots := v.set i ⟨(s.slot i).generation, some (l.atEnd why s.clock d)⟩ } := by
  have hl' : State.leaseAt { s with slots := v } i = some l := by rw [State.leaseAt, hi]; exact hl
  have hhandle : State.handleOf { s with slots := v } i = s.handleOf i := by rw [State.handleOf, hi, State.handleOf]
  rw [endLease_eq hl' ha, endLease_eq hl ha, hhandle]
  have hclose : ∀ (x : Option Lease) (S : OutputSet) (w : List SlotId),
      State.closeSlot { s with slots := v } i x S w =
        { s.closeSlot i x S w with slots := v.set i ⟨(s.slot i).generation, x⟩ } := by
    intro x S w
    have hput : State.putLease (State.unscheduleSlot { s with slots := v } i) i x =
        { (s.unscheduleSlot i).putLease i x with slots := v.set i ⟨(s.slot i).generation, x⟩ } := by
      rw [← hi]; rfl
    rw [State.closeSlot, hput]
    refine recomputeAll_slots_replaced (s := { (s.unscheduleSlot i).putLease i x with waitQueue := w }) (fun o => ?_) S
    rw [Bool.eq_iff_iff, State.held_iff, State.held_iff]
    refine exists_congr fun j => Bool.eq_iff_iff.mp ?_
    have hnew := State.slotHolds_of_set (s := { s with slots := v }) (i := i) (x := ⟨(s.slot i).generation, x⟩)
      (t := { s with slots := v.set i ⟨(s.slot i).generation, x⟩ }) rfl o j
    have hold := State.slotHolds_of_set (s := s) (i := i) (x := ⟨(s.slot i).generation, x⟩)
      (t := (s.unscheduleSlot i).putLease i x) rfl o j
    rw [hh] at hnew
    exact hnew.trans hold.symm
  rw [hclose]
  exact tellEnd_slots_replaced ..

end

end Sys2Proof.Machine
end

section
/-! SUPPORT. A counted edge (R94 to R96): charging every bound lease first and ending those spent afterwards comes to the same
as charging and ending them slot by slot. -/

namespace Sys2Proof.Machine

theorem State.boundTo_eq_some {s : State} {ch : CountId} {i : SlotId} {l : Lease} {k : CountBound} :
    s.boundTo ch i = some (l, k) ↔
      s.leaseAt i = some l ∧ l.count = some k ∧ l.phase.isLive = true ∧ k.channel = ch := by
  unfold State.boundTo
  cases s.leaseAt i with
  | none => simp
  | some m =>
    cases hk : m.count with
    | none => simp only [hk, reduceCtorEq, Option.some.injEq, false_iff]; rintro ⟨rfl, h, -⟩; simp [hk] at h
    | some b =>
      by_cases h : (m.phase.isLive && b.channel == ch) = true
      · simp only [hk, h, if_true, Option.some.injEq, Prod.mk.injEq]
        simp only [Bool.and_eq_true, beq_iff_eq] at h
        constructor
        · rintro ⟨rfl, rfl⟩; exact ⟨rfl, hk, h⟩
        · rintro ⟨rfl, hb, -⟩; exact ⟨rfl, Option.some.inj (hk.symm.trans hb)⟩
      · simp only [hk, h, Bool.false_eq_true, if_false, reduceCtorEq, Option.some.injEq, false_iff]
        rintro ⟨rfl, hb, hlive, hch⟩
        obtain rfl := Option.some.inj (hk.symm.trans hb)
        exact h (by simp [hlive, hch])

theorem State.boundTo_congr {s t : State} {i : SlotId} (h : t.slot i = s.slot i) (ch : CountId) :
    t.boundTo ch i = s.boundTo ch i := by
  unfold State.boundTo State.leaseAt
  rw [h]

theorem State.spentBy_congr {s t : State} {i : SlotId} (h : t.slot i = s.slot i) (ch : CountId) :
    t.spentBy ch i = s.spentBy ch i := by
  unfold State.spentBy
  rw [State.boundTo_congr h]

/-- A lease with one more edge charged to it (R95). -/
def Lease.chargeOne (l : Lease) (k : CountBound) : Lease := { l with count := some { k with spent := k.spent + 1 } }

/-- Slot `i` with the edge charged to it, where its lease is bound to the channel (R95). -/
def State.charged (s : State) (ch : CountId) (i : SlotId) : Slot :=
  match s.boundTo ch i with
  | some (l, k) => ⟨(s.slot i).generation, some (l.chargeOne k)⟩
  | none => s.slot i

theorem State.charged_congr {s t : State} {i : SlotId} (h : t.slot i = s.slot i) (ch : CountId) :
    t.charged ch i = s.charged ch i := by
  unfold State.charged
  rw [State.boundTo_congr h, h]

/-- The lease table with the edge charged to the slots of a list. -/
def State.chargedSlots (s : State) (ch : CountId) (L : List SlotId) : Vector Slot 32 :=
  Vector.ofFn fun i : SlotId => if i ∈ L then s.charged ch i else s.slot i

section
variable {s : State} {ch : CountId} {i : SlotId} {l : Lease} {k : CountBound}

theorem State.charged_of_unbound (h : s.boundTo ch i = none) : s.charged ch i = s.slot i := by
  rw [State.charged, h]

theorem State.charged_of_bound (h : s.boundTo ch i = some (l, k)) :
    s.charged ch i = ⟨(s.slot i).generation, some (l.chargeOne k)⟩ := by
  rw [State.charged, h]

theorem chargeSlot_of_unbound (h : s.boundTo ch i = none) : chargeSlot ch s i = s := by
  rw [chargeSlot, h]

theorem chargeSlot_of_bound (h : s.boundTo ch i = some (l, k)) :
    chargeSlot ch s i =
      if s.spentBy ch i = true then (s.putLease i (some (l.chargeOne k))).endLease i .countSpent none
      else s.putLease i (some (l.chargeOne k)) := by
  rw [chargeSlot, h, State.spentBy, h]
  simp only [beq_iff_eq]
  rfl

/-- Charging leaves which outputs each slot holds. -/
theorem State.slotHolds_charged {v : Vector Slot 32} (h : ∀ j : SlotId, v[j] = s.slot j ∨ v[j] = s.charged ch j) (o : OutputId)
    (j : SlotId) : State.slotHolds { s with slots := v } o j = s.slotHolds o j := by
  have hl : State.leaseAt { s with slots := v } j = v[j].lease := rfl
  unfold State.slotHolds
  rw [hl]
  obtain hj | hj := h j
  · rw [hj]; rfl
  · rw [hj]
    cases hb : s.boundTo ch j with
    | none => rw [State.charged_of_unbound hb]; rfl
    | some p =>
      obtain ⟨m, b⟩ := p
      rw [State.charged_of_bound hb, (State.boundTo_eq_some.mp hb).1]
      rfl

end

theorem State.chargedSlots_cases (s : State) (ch : CountId) (L : List SlotId) (j : SlotId) :
    (s.chargedSlots ch L)[j] = s.charged ch j ∨ (s.chargedSlots ch L)[j] = s.slot j := by
  have h : (s.chargedSlots ch L)[j] = if j ∈ L then s.charged ch j else s.slot j := by simp [State.chargedSlots]
  rw [h]
  split
  · exact .inl rfl
  · exact .inr rfl

/-- A charge, with the end it may bring, leaves the other slots. -/
theorem chargeSlot_slot_of_ne (ch : CountId) (s : State) {i j : SlotId} (h : i ≠ j) :
    (chargeSlot ch s i).slot j = s.slot j := by
  cases hb : s.boundTo ch i with
  | none => rw [chargeSlot_of_unbound hb]
  | some p =>
    obtain ⟨l, k⟩ := p
    have hput : (s.putLease i (some (l.chargeOne k))).slot j = s.slot j := by
      rw [State.slot_of_set (s := s) (i := i) (x := ⟨(s.slot i).generation, some (l.chargeOne k)⟩) rfl, if_neg h]
    rw [chargeSlot_of_bound hb]
    split
    · rw [State.slot_of_set (endLease_slots ..), if_neg h, hput]
    · exact hput

/-- The table with the rest of a list charged after slot `i`, by the table with the whole list charged before. -/
theorem State.chargedSlots_of_rest {s w : State} {ch : CountId} {i : SlotId} {L : List SlotId} (hi : i ∉ L)
    (hw : ∀ j, i ≠ j → w.slot j = s.slot j) : w.chargedSlots ch L = (s.chargedSlots ch (i :: L)).set i (w.slot i) := by
  refine (Vector.eq_ofFn fun j => ?_).symm
  by_cases hj : i = j
  · subst hj; simp [hi]
  · have hval : ¬(i : Nat) = j := fun h => hj (Fin.ext h)
    simp [State.chargedSlots, hval, Ne.symm hj, State.charged_congr (hw j hj), hw j hj]

theorem State.chargedSlots_head (s : State) (ch : CountId) (i : SlotId) (L : List SlotId) :
    State.slot { s with slots := s.chargedSlots ch (i :: L) } i = s.charged ch i := by
  simp [State.slot, State.chargedSlots]

theorem Vector.set_getElem_self_of_eq {α : Type} {n : Nat} {v : Vector α n} {i : Fin n} {x : α} (h : v[i] = x) :
    v.set i x = v := by
  subst h
  exact Vector.set_getElem_self _

/-- Slot `i` charged and then the rest of the list, by the whole list charged and then slot `i` ended where it is spent. -/
theorem chargeSlot_before_rest (ch : CountId) (s : State) {i : SlotId} {L : List SlotId} (hi : i ∉ L) :
    { chargeSlot ch s i with slots := (chargeSlot ch s i).chargedSlots ch L } =
      if s.spentBy ch i = true then State.endLease { s with slots := s.chargedSlots ch (i :: L) } i .countSpent none
      else { s with slots := s.chargedSlots ch (i :: L) } := by
  rw [State.chargedSlots_of_rest hi fun j hj => chargeSlot_slot_of_ne ch s hj]
  have hhead := s.chargedSlots_head ch i L
  cases hb : s.boundTo ch i with
  | none =>
    rw [State.charged_of_unbound hb] at hhead
    rw [chargeSlot_of_unbound hb, if_neg (by simp [State.spentBy, hb]), Vector.set_getElem_self_of_eq hhead]
  | some p =>
    obtain ⟨l, k⟩ := p
    obtain ⟨hl, -, hlive, -⟩ := State.boundTo_eq_some.mp hb
    have hput : ∀ j, (s.putLease i (some (l.chargeOne k))).slot j = if i = j then s.charged ch i else s.slot j := fun j => by
      rw [State.slot_of_set (s := s) (i := i) (x := ⟨(s.slot i).generation, some (l.chargeOne k)⟩) rfl,
        State.charged_of_bound hb]
    have hputi := (hput i).trans (if_pos rfl)
    rw [chargeSlot_of_bound hb]
    by_cases hspent : s.spentBy ch i = true
    · have hua : (l.chargeOne k).phase.isWaiting = true ∨ (l.chargeOne k).phase.isLive = true := .inr hlive
      have hul : (s.putLease i (some (l.chargeOne k))).leaseAt i = some (l.chargeOne k) := by
        rw [State.leaseAt, hputi, State.charged_of_bound hb]
      have hholds : ∀ o j, State.slotHolds { s with slots := s.chargedSlots ch (i :: L) } o j =
          (s.putLease i (some (l.chargeOne k))).slotHolds o j := fun o j => by
        have hcharged := State.slotHolds_charged (s := s) (ch := ch) (v := s.chargedSlots ch (i :: L))
          (fun m => (s.chargedSlots_cases ch (i :: L) m).symm) o j
        have hone := State.slotHolds_charged (s := s) (ch := ch) (v := (s.putLease i (some (l.chargeOne k))).slots)
          (fun m => by
            have := hput m
            by_cases hm : i = m
            · subst hm; exact .inr hputi
            · exact .inl (this.trans (if_neg hm))) o j
        exact hcharged.trans hone.symm
      have hend := endLease_slots_replaced (s := s.putLease i (some (l.chargeOne k))) (v := s.chargedSlots ch (i :: L)) hul hua
        (hhead.trans hputi.symm) hholds .countSpent none
      rw [if_pos hspent, if_pos hspent]
      refine Eq.trans ?_ hend.symm
      rw [State.slot_of_set (endLease_slots ..), if_pos rfl, hul, Option.map_some, Lease.afterEnd, if_pos (by simpa using hua)]
    · rw [if_neg hspent, if_neg hspent, hputi, Vector.set_getElem_self_of_eq hhead]
      rfl

/-- Charging the slots of a list one by one, ending those spent on the way, is charging them all and ending those spent in
the list's order: neither reads what the other writes. -/
theorem foldl_chargeSlot (ch : CountId) {L : List SlotId} (hL : L.Nodup) (s : State) :
    L.foldl (chargeSlot ch) s =
      (L.filter (s.spentBy ch)).foldl (fun u i => u.endLease i .countSpent none) { s with slots := s.chargedSlots ch L } := by
  induction L generalizing s with
  | nil =>
    have hsame : s.chargedSlots ch [] = s.slots := (Vector.eq_ofFn fun i => by simp [State.slot]).symm
    rw [hsame]
    rfl
  | cons i L ih =>
    obtain ⟨hi, hL⟩ := List.nodup_cons.mp hL
    have hfilter : L.filter ((chargeSlot ch s i).spentBy ch) = L.filter (s.spentBy ch) :=
      List.filter_congr fun j hj => State.spentBy_congr (chargeSlot_slot_of_ne ch s (by rintro rfl; exact hi hj)) ch
    rw [List.foldl_cons, ih hL, hfilter, chargeSlot_before_rest ch s hi]
    by_cases hspent : s.spentBy ch i = true
    · rw [if_pos hspent, List.filter_cons_of_pos hspent, List.foldl_cons]
    · rw [if_neg hspent, List.filter_cons_of_neg hspent]

/-! ### The whole edge -/

/-- The state with the edge counted and every bound lease charged. -/
def State.edgeCharged (s : State) (ch : CountId) : State :=
  { s with
    counts := s.counts.set ch { s.count ch with total := (s.count ch).total + 1 }
    slots := Vector.ofFn fun i : SlotId => s.charged ch i }

/-- The leases whose budget the edge spends, in ascending slot order. -/
def State.edgeEnds (s : State) (ch : CountId) : List SlotId := (List.finRange 32).filter (s.spentBy ch)

theorem countEdge_eq (s : State) (ch : CountId) :
    s.countEdge ch =
      ((s.edgeEnds ch).foldl (fun u i => u.endLease i .countSpent none) (s.edgeCharged ch)).reviewIf
        (!(s.edgeEnds ch).isEmpty) := by
  have hasked : (List.finRange 32).any (s.spentBy ch) = !(s.edgeEnds ch).isEmpty := by
    rw [State.edgeEnds, Bool.eq_iff_iff, List.any_eq_true, Bool.not_eq_true', List.isEmpty_eq_false_iff_exists_mem]
    simp only [List.mem_filter]
  have hslots : State.chargedSlots (s.putCount ch { s.count ch with total := (s.count ch).total + 1 }) ch (List.finRange 32) =
      Vector.ofFn fun i : SlotId => s.charged ch i :=
    congrArg Vector.ofFn (funext fun i => if_pos (List.mem_finRange i))
  rw [State.countEdge]
  dsimp only
  rw [foldl_chargeSlot ch (List.nodup_finRange 32), hslots, ← hasked]
  rfl

section
variable (s : State) (ch : CountId)

theorem edgeEnds_nodup : (s.edgeEnds ch).Nodup := (List.nodup_finRange 32).filter _

theorem mem_edgeEnds {i : SlotId} : i ∈ s.edgeEnds ch ↔ s.spentBy ch i = true := by simp [State.edgeEnds]

theorem State.slot_edgeCharged (i : SlotId) : (s.edgeCharged ch).slot i = s.charged ch i := by
  simp [State.slot, State.edgeCharged]

/-- The slots after the ends an edge brings: an ended one carries the last charge, the others are as charged. -/
theorem State.slot_edge (i : SlotId) :
    ((s.edgeEnds ch).foldl (fun u i => u.endLease i .countSpent none) (s.edgeCharged ch)).slot i =
      if s.spentBy ch i = true then
        ⟨((s.charged ch i)).generation, (s.charged ch i).lease.map fun l => l.afterEnd .countSpent s.clock none⟩
      else s.charged ch i := by
  have hclock : (s.edgeCharged ch).clock = s.clock := by simp only [State.edgeCharged]
  rw [State.slot_foldl_endLease _ _ (edgeEnds_nodup s ch), State.leaseAt, State.slot_edgeCharged, hclock]
  exact if_congr (mem_edgeEnds s ch) rfl rfl

theorem State.waitingAt_edge (i : SlotId) :
    ((s.edgeEnds ch).foldl (fun u i => u.endLease i .countSpent none) (s.edgeCharged ch)).waitingAt i = s.waitingAt i := by
  have hcharged : (s.edgeCharged ch).waitingAt i = s.waitingAt i := by
    rw [State.waitingAt_eq, State.leaseAt, State.slot_edgeCharged, State.waitingAt_eq]
    cases hb : s.boundTo ch i with
    | none => rw [State.charged_of_unbound hb]; rfl
    | some p =>
      obtain ⟨l, k⟩ := p
      rw [State.charged_of_bound hb, (State.boundTo_eq_some.mp hb).1]
      rfl
  rw [State.waitingAt_foldl_endLease _ _ (edgeEnds_nodup s ch), hcharged]
  by_cases hi : i ∈ s.edgeEnds ch
  · have hspent := (mem_edgeEnds s ch).mp hi
    cases hb : s.boundTo ch i with
    | none => simp [State.spentBy, hb] at hspent
    | some p =>
      obtain ⟨l, k⟩ := p
      obtain ⟨hl, -, hlive, -⟩ := State.boundTo_eq_some.mp hb
      have hw : s.waitingAt i = false := by
        rw [State.waitingAt_eq, hl, Option.any_some]
        cases hp : l.phase <;> simp [hp, Phase.isLive, Phase.isWaiting] at hlive ⊢
      rw [hw, Bool.and_false]
  · simp [hi]

end

theorem State.boundTo_of_waiting {s : State} {ch : CountId} {i : SlotId} (h : s.waitingAt i = true) :
    s.boundTo ch i = none := by
  obtain ⟨l, hl, hw⟩ := State.waitingAt_iff.mp h
  cases hb : s.boundTo ch i with
  | none => rfl
  | some p =>
    obtain ⟨m, k⟩ := p
    obtain ⟨hm, -, hlive, -⟩ := State.boundTo_eq_some.mp hb
    obtain rfl := Option.some.inj (hl.symm.trans hm)
    rw [Phase.not_live_of_waiting hw] at hlive
    exact absurd hlive (by decide)

/-- Settles O44: the edge is its charges, the ends of the leases spent and the review they ask for. -/
theorem countedEdgeChargesLiveLeases : Obligations.CountedEdgeChargesLiveLeases := by
  unfold Obligations.CountedEdgeChargesLiveLeases
  intro s ch t ends charged
  have hends : ends = s.edgeEnds ch := rfl
  have hcharged : charged = s.edgeCharged ch := rfl
  have heq : t = ((s.edgeEnds ch).foldl (fun u i => u.endLease i .countSpent none) (s.edgeCharged ch)).reviewIf
      (!(s.edgeEnds ch).isEmpty) := countEdge_eq s ch
  clear_value t ends charged
  have hspares : Spares (s.edgeCharged ch) t := by
    rw [heq]; exact (foldl_endLease_spares ..).trans (reviewIf_spares ..)
  unfold State.edgeCharged at hspares
  have hslot : ∀ i, s.waitingAt i = false → t.slot i = if s.spentBy ch i = true then
        ⟨((s.charged ch i)).generation, (s.charged ch i).lease.map fun l => l.afterEnd .countSpent s.clock none⟩
      else s.charged ch i := fun i hw => by
    rw [heq, State.slot_reviewIf_of_not_waiting (by rw [State.waitingAt_edge, hw]), State.slot_edge]
  have hunbound : ∀ i, s.boundTo ch i = none → s.spentBy ch i = false ∧ s.charged ch i = s.slot i := fun i hb =>
    ⟨by simp [State.spentBy, hb], State.charged_of_unbound hb⟩
  refine ⟨?whole, hspares.counts, fun i l k hl hlive hk hch => ?bound, fun i hb hw => ?other, fun i hw => ?waits,
    fun hnone => ?none, hspares.faults, hspares.clock, hspares.mode, hspares.link, hspares.pins⟩
  case whole =>
    rw [heq, hends, hcharged]
    cases hnil : s.edgeEnds ch with
    | nil => rfl
    | cons i L => rw [if_neg (by simp)]; rfl
  case bound =>
    have hb : s.boundTo ch i = some (l, k) := State.boundTo_eq_some.mpr ⟨hl, hk, hlive, hch⟩
    have hw : s.waitingAt i = false := by
      rw [Bool.eq_false_iff]
      intro h
      rw [State.boundTo_of_waiting h] at hb
      exact absurd hb (by simp)
    rw [hslot i hw, State.charged_of_bound hb]
    have hspent : s.spentBy ch i = true ↔ k.spent + 1 = k.budget := by rw [State.spentBy, hb]; simp
    by_cases h : k.spent + 1 = k.budget
    · rw [if_pos (hspent.mpr h), if_pos h, Option.map_some, Lease.afterEnd_active (l := l.chargeOne k) (.inr hlive)]
      rfl
    · rw [if_neg fun h' => h (hspent.mp h'), if_neg h]
      rfl
  case other =>
    rw [hslot i hw, if_neg (by simp [(hunbound i hb).1]), (hunbound i hb).2]
  case waits =>
    obtain ⟨hs, hc⟩ := hunbound i (State.boundTo_of_waiting hw)
    rw [heq]
    refine (State.slot_reviewIf _ _ i).imp (fun h => ?_) And.right
    rw [h, State.slot_edge, if_neg (by simp [hs]), hc]
  case none =>
    have hnil : s.edgeEnds ch = [] := List.filter_eq_nil_iff.mpr fun i _ hspent => by
      cases hb : s.boundTo ch i with
      | none => simp [State.spentBy, hb] at hspent
      | some p =>
        obtain ⟨l, k⟩ := p
        obtain ⟨hl, hk, hlive, hch⟩ := State.boundTo_eq_some.mp hb
        exact hnone i l k hl hlive hk hch (by simpa [State.spentBy, hb] using hspent)
    have ht : t = s.edgeCharged ch := by rw [heq, hnil]; rfl
    rw [ht]
    refine ⟨?_, ?_, ?_, ?_, ?_, fun i hb => by rw [State.slot_edgeCharged, State.charged_of_unbound hb]⟩ <;>
      simp only [State.edgeCharged]

end Sys2Proof.Machine
end

section
/-! SUPPORT. The trip of a fault channel (R124 to R126): the cut of its outputs in one update, and all that FAULT_TRIP does. -/

namespace Sys2Proof.Machine

/-! ### The cut (R35) -/

/-- An output with channel `ch` added to its cut-by set, in CUT (R35). -/
def Output.cutOff (ch : FaultId) (x : Output) : Output := { x with state := .cut, cutBy := x.cutBy ||| BitVec.twoPow 4 ch }

theorem cutOutput_eq (ch : FaultId) (s : State) (o : OutputId) :
    cutOutput ch s o = { s.putOutput o ((s.output o).cutOff ch) with
      expiry := if (s.output o).state = .settle then removeEntry (.settle o) s.expiry else s.expiry } := by
  unfold cutOutput
  dsimp only
  split <;> rfl

/-- Outputs cut one by one, in one update. -/
theorem foldl_cutOutput (ch : FaultId) {L : List OutputId} (hL : L.Nodup) (s : State) :
    L.foldl (cutOutput ch) s = { s with
      outputs := Vector.ofFn fun o : OutputId => if o ∈ L then (s.output o).cutOff ch else s.output o
      gLines := Vector.ofFn fun o : OutputId => if o ∈ L then ((s.output o).cutOff ch).line else s.gLines[o]
      expiry := s.expiry.filter fun d => ∀ o ∈ L, (s.output o).state = .settle → d.key ≠ .settle o } := by
  induction L generalizing s with
  | nil =>
    refine State.eq_of_fields rfl rfl rfl rfl rfl ?_ rfl ?_ rfl rfl rfl rfl ?_ rfl rfl
    · exact Vector.eq_ofFn fun o => by simp [State.output]
    · simp
    · exact Vector.eq_ofFn fun o => by simp
  | cons a L ih =>
    obtain ⟨ha, hL⟩ := List.nodup_cons.mp hL
    have hne : ∀ o ∈ L, a ≠ o := by rintro o ho rfl; exact ha ho
    have hout : ∀ o, (cutOutput ch s a).output o = if a = o then (s.output a).cutOff ch else s.output o := fun o => by
      rw [cutOutput_eq]
      exact s.output_putOutput a o _
    have hline : ∀ o : OutputId, (cutOutput ch s a).gLines[o] = if a = o then ((s.output a).cutOff ch).line else s.gLines[o] :=
      fun o => by
        rw [cutOutput_eq]
        exact s.gLine_putOutput a o _
    have hexp : (cutOutput ch s a).expiry =
        s.expiry.filter fun d => (s.output a).state = .settle → d.key ≠ .settle a := by
      rw [cutOutput_eq]
      by_cases hs : (s.output a).state = .settle
      · simp [hs, removeEntry]
      · simp [hs]
    rw [List.foldl_cons, ih hL]
    have hframe := cutOutput_eq ch s a
    generalize cutOutput ch s a = u at hout hline hexp hframe ⊢
    refine State.eq_of_fields (by rw [hframe]; rfl) (by rw [hframe]; rfl) (by rw [hframe]; rfl) (by rw [hframe]; rfl)
      (by rw [hframe]; rfl) ?outputs (by rw [hframe]; rfl) ?expiry (by rw [hframe]; rfl) (by rw [hframe]; rfl)
      (by rw [hframe]; rfl) (by rw [hframe]; rfl) ?lines (by rw [hframe]; rfl) (by rw [hframe]; rfl)
    case outputs =>
      refine congrArg Vector.ofFn (funext fun o => ?_)
      rw [hout]
      by_cases ho : a = o
      · subst ho; simp [ha]
      · simp [ho, Ne.symm ho]
    case lines =>
      refine congrArg Vector.ofFn (funext fun o => ?_)
      rw [hout, hline]
      by_cases ho : a = o
      · subst ho; simp [ha]
      · simp [ho, Ne.symm ho]
    case expiry =>
      rw [hexp, List.filter_filter]
      refine List.filter_congr fun d _ => ?_
      rw [Bool.eq_iff_iff, Bool.and_eq_true, decide_eq_true_eq, decide_eq_true_eq, decide_eq_true_eq, List.forall_mem_cons,
        and_comm]
      refine and_congr_right fun _ => forall₂_congr fun o ho => ?_
      rw [hout, if_neg (hne o ho)]

/-! ### Entries after ends of leases (R12) -/

theorem mem_endLease_of_not_settle {s : State} {i : SlotId} {l : Lease} (hl : s.leaseAt i = some l)
    (ha : l.phase.isWaiting = true ∨ l.phase.isLive = true) (why : EndReason) (d : Option FaultId) {e : Entry}
    (he : e.key.isSettle = false) : e ∈ (s.endLease i why d).expiry ↔ e ∈ s.expiry ∧ e.key.ofSlot i = false := by
  rw [endLease_eq hl ha, tellEnd_expiry, mem_closeSlot_of_not_settle _ _ _ _ _ he]

theorem State.active_iff {s : State} {i : SlotId} : s.waitingAt i = true ∨ s.liveAt i = true ↔
    ∃ l, s.leaseAt i = some l ∧ (l.phase.isWaiting = true ∨ l.phase.isLive = true) := by
  rw [State.waitingAt_eq, State.liveAt_eq]
  cases s.leaseAt i <;> simp

/-- The ends of the waiting and live leases of a list take their own entries and, but for SETTLE entries, no others. -/
theorem mem_foldl_endLease_of_not_settle (why : EndReason) (d : Option FaultId) {L : List SlotId} (hL : L.Nodup) {s : State}
    (ha : ∀ i ∈ L, s.waitingAt i = true ∨ s.liveAt i = true) {e : Entry} (he : e.key.isSettle = false) :
    e ∈ (L.foldl (fun u i => u.endLease i why d) s).expiry ↔ e ∈ s.expiry ∧ ∀ i ∈ L, e.key.ofSlot i = false := by
  induction L generalizing s with
  | nil => simp
  | cons i L ih =>
    obtain ⟨hi, hL⟩ := List.nodup_cons.mp hL
    obtain ⟨l, hl, hact⟩ := State.active_iff.mp (ha i List.mem_cons_self)
    have hrest : ∀ j ∈ L, (s.endLease i why d).waitingAt j = true ∨ (s.endLease i why d).liveAt j = true := fun j hj => by
      have hne : i ≠ j := by rintro rfl; exact hi hj
      rw [State.waitingAt_endLease, State.liveAt_endLease]
      simpa [hne] using ha j (List.mem_cons_of_mem _ hj)
    rw [List.foldl_cons, ih hL hrest, mem_endLease_of_not_settle hl hact why d he, List.forall_mem_cons, and_assoc]

/-! ### The trip (R124) -/

/-- The live leases a trip ends, in ascending slot order. -/
def State.tripEnds (s : State) (S : OutputSet) : List SlotId := (List.finRange 32).filter (s.cutLease S)

/-- A trip before its ends: the trip counted, with the channel's own entries gone. -/
def State.tripStart (s : State) (ch : FaultId) (x : FaultChannel) : State :=
  { s with
    faults := s.faults.set ch { x with tripCount := x.tripCount + 1 }
    expiry := s.expiry.filter fun d => d.key ≠ .recover ch ∧ d.key ≠ .quiet ch }

/-- A trip once its leases have ended. -/
def State.tripLeases (s : State) (ch : FaultId) (x : FaultChannel) : State :=
  (s.tripEnds x.cutSet).foldl (fun u i => u.endLease i .fault (some ch)) (s.tripStart ch x)

/-- An output once the trip has cut its set. -/
def State.tripOutput (s : State) (ch : FaultId) (x : FaultChannel) (o : OutputId) : Output :=
  if x.cutSet.getLsbD o then ((s.tripLeases ch x).output o).cutOff ch else (s.tripLeases ch x).output o

/-- A trip once its outputs are cut and the channel stands in its new state. -/
def State.tripCut (s : State) (ch : FaultId) (x : FaultChannel) : State :=
  { s.tripLeases ch x with
    faults := s.faults.set ch
      { x with tripCount := x.tripCount + 1, state := if x.tripCount + 1 = x.latchLimit then .latched else .tripped }
    outputs := Vector.ofFn (s.tripOutput ch x)
    gLines := Vector.ofFn fun o : OutputId =>
      if x.cutSet.getLsbD o then (s.tripOutput ch x o).line else (s.tripLeases ch x).gLines[o]
    expiry := (s.tripLeases ch x).expiry.filter fun d => ∀ o : OutputId, x.cutSet.getLsbD o = true →
      ((s.tripLeases ch x).output o).state = .settle → d.key ≠ .settle o }

/-- A trip that ends no lease and finds no output of its set in SETTLE asks for no review (R124). -/
def State.tripIdle (s : State) (ch : FaultId) (x : FaultChannel) : Prop :=
  s.tripEnds x.cutSet = [] ∧
    ∀ o : OutputId, x.cutSet.getLsbD o = true → ((s.tripLeases ch x).output o).state ≠ .settle

section
variable (s : State) (ch : FaultId) (x : FaultChannel)

theorem tripStart_spares : Spares (s.tripStart ch x) (s.tripLeases ch x) := foldl_endLease_spares ..

theorem tripLeases_faults : (s.tripLeases ch x).faults = s.faults.set ch { x with tripCount := x.tripCount + 1 } :=
  (tripStart_spares s ch x).faults

theorem trip_whole : ∃ b, s.trip ch x = ((s.tripCut ch x).notify 0 .fault).reviewIf b ∧ (b = false ↔ s.tripIdle ch x) := by
  have hstart : (s.putFault ch { x with tripCount := x.tripCount + 1 }).unscheduleFault ch = s.tripStart ch x := by
    rw [unscheduleFault_eq]; rfl
  refine ⟨!(s.tripEnds x.cutSet).isEmpty || (members x.cutSet).any fun o => ((s.tripLeases ch x).output o).state == .settle,
    ?_, ?_⟩
  · have hends : (List.finRange 32).filter ((s.tripStart ch x).cutLease x.cutSet) = s.tripEnds x.cutSet := rfl
    have hleases : (s.tripEnds x.cutSet).foldl (fun u i => u.endLease i .fault (some ch)) (s.tripStart ch x) =
        s.tripLeases ch x := rfl
    have hcut : State.putFault ((members x.cutSet).foldl (cutOutput ch) (s.tripLeases ch x)) ch
        { x with tripCount := x.tripCount + 1, state := if x.tripCount + 1 = x.latchLimit then .latched else .tripped } =
        s.tripCut ch x := by
      rw [foldl_cutOutput ch (members_nodup _)]
      refine State.eq_of_fields rfl rfl rfl rfl rfl ?_ rfl ?_ rfl ?_ rfl rfl ?_ rfl rfl
      · refine congrArg Vector.ofFn (funext fun o => ?_)
        simp only [mem_members]
        rfl
      · refine List.filter_congr fun d _ => ?_
        simp only [mem_members]
      · simp only [State.putFault, State.tripCut, tripLeases_faults]
        exact Vector.set_set _ _
      · refine congrArg Vector.ofFn (funext fun o => ?_)
        simp only [mem_members, State.tripOutput]
        split <;> rfl
    rw [State.trip]
    rw [hstart, hends, hleases, hcut]
  · simp only [State.tripIdle, Bool.or_eq_false_iff, Bool.not_eq_false', List.isEmpty_iff, List.any_eq_false, mem_members,
      beq_iff_eq, ne_eq]

end

/-! ### What a trip leaves (R124 to R126) -/

section
variable {s : State} {ch : FaultId} {x : FaultChannel}

theorem mem_tripEnds {i : SlotId} : i ∈ s.tripEnds x.cutSet ↔ s.cutLease x.cutSet i = true := by simp [State.tripEnds]

theorem tripEnds_nodup : (s.tripEnds x.cutSet).Nodup := (List.nodup_finRange 32).filter _

theorem tripEnds_active {i : SlotId} (h : i ∈ s.tripEnds x.cutSet) : s.waitingAt i = true ∨ s.liveAt i = true := by
  obtain ⟨l, hl, hlive, -⟩ := State.cutLease_iff.mp (mem_tripEnds.mp h)
  exact State.active_iff.mpr ⟨l, hl, .inr hlive⟩

theorem State.slot_tripCut (s : State) (ch : FaultId) (x : FaultChannel) (i : SlotId) : (s.tripCut ch x).slot i =
    if i ∈ s.tripEnds x.cutSet then ⟨(s.slot i).generation, (s.leaseAt i).map fun l => l.afterEnd .fault s.clock (some ch)⟩
    else s.slot i := by
  have hslots : (s.tripCut ch x).slot i = (s.tripLeases ch x).slot i := rfl
  rw [hslots, State.tripLeases, State.slot_foldl_endLease _ _ tripEnds_nodup]
  rfl

theorem State.waitingAt_tripCut (s : State) (ch : FaultId) (x : FaultChannel) (i : SlotId) :
    (s.tripCut ch x).waitingAt i = s.waitingAt i := by
  have hslots : (s.tripCut ch x).waitingAt i = (s.tripLeases ch x).waitingAt i := rfl
  have hstart : (s.tripStart ch x).waitingAt i = s.waitingAt i := rfl
  rw [hslots, State.tripLeases, State.waitingAt_foldl_endLease _ _ tripEnds_nodup, hstart]
  by_cases hi : i ∈ s.tripEnds x.cutSet
  · obtain ⟨l, hl, hlive, -⟩ := State.cutLease_iff.mp (mem_tripEnds.mp hi)
    have hw : s.waitingAt i = false := by
      rw [State.waitingAt_eq, hl, Option.any_some]
      cases hp : l.phase <;> simp [hp, Phase.isLive, Phase.isWaiting] at hlive ⊢
    rw [hw, Bool.and_false]
  · simp [hi]

theorem State.output_tripCut (s : State) (ch : FaultId) (x : FaultChannel) (o : OutputId) :
    (s.tripCut ch x).output o = s.tripOutput ch x o := by
  simp [State.output, State.tripCut]

theorem tripCut_keeps (s : State) (ch : FaultId) (x : FaultChannel) : Keeps s (s.tripCut ch x) := by
  have hstart : Keeps s (s.tripStart ch x) := by constructor <;> intros <;> rfl
  have hleases : Keeps s (s.tripLeases ch x) := hstart.trans (tripStart_spares s ch x).toKeeps
  have hout : ∀ o, ((s.tripCut ch x).output o).maxTerm = ((s.tripLeases ch x).output o).maxTerm ∧
      ((s.tripCut ch x).output o).gap = ((s.tripLeases ch x).output o).gap ∧
      ((s.tripCut ch x).output o).drive = ((s.tripLeases ch x).output o).drive ∧
      ((s.tripCut ch x).output o).partners = ((s.tripLeases ch x).output o).partners := fun o => by
    rw [State.output_tripCut, State.tripOutput]
    split <;> exact ⟨rfl, rfl, rfl, rfl⟩
  exact {
    power := hleases.power, pins := hleases.pins, mode := hleases.mode, clock := hleases.clock, counts := hleases.counts
    link := hleases.link, pending := hleases.pending
    maxTerm := fun o => (hout o).1.trans (hleases.maxTerm o)
    gap := fun o => (hout o).2.1.trans (hleases.gap o)
    drive := fun o => (hout o).2.2.1.trans (hleases.drive o)
    partners := fun o => (hout o).2.2.2.trans (hleases.partners o)
    opened := hleases.opened, epoch := hleases.epoch, response := hleases.response, quota := hleases.quota
    mask := hleases.mask }

theorem mem_tripCut_of_not_settle {e : Entry} (he : e.key.isSettle = false) (h : e ∈ (s.tripCut ch x).expiry) :
    e.key ≠ .recover ch ∧ e.key ≠ .quiet ch := by
  have hleases : e ∈ (s.tripLeases ch x).expiry := List.mem_of_mem_filter h
  have hmem := (mem_foldl_endLease_of_not_settle .fault (some ch) (s := s.tripStart ch x)
    (tripEnds_nodup (s := s) (x := x)) (fun i hi => tripEnds_active hi) he).mp hleases
  simpa using (List.mem_filter.mp hmem.1).2

/-- The cut-by set of an output after a trip: its own channel is added where the trip cuts it (R35). -/
theorem cutBy_tripCut (s : State) (ch : FaultId) (x : FaultChannel) (o : OutputId) : ((s.tripCut ch x).output o).cutBy =
    if x.cutSet.getLsbD o then (s.output o).cutBy ||| BitVec.twoPow 4 ch else (s.output o).cutBy := by
  have hcut : ((s.tripLeases ch x).output o).cutBy = (s.output o).cutBy := (tripStart_spares s ch x).cutBy o
  rw [State.output_tripCut, State.tripOutput]
  split
  · exact congrArg (· ||| BitVec.twoPow 4 ch) hcut
  · exact hcut

end

/-- Settles O49: the trip in one update, the notice and the review it asks for, and what a review leaves alone. -/
theorem tripCutsAndEnds : Obligations.TripCutsAndEnds := by
  unfold Obligations.TripCutsAndEnds
  intro s ch hrun hdue hf hst x y ends e cut m
  have hm : m = (s.tripCut ch { x with filtered := true, run := 0, changeDue := false }).notify 0 .fault := rfl
  have hidle : (ends = [] ∧ ∀ o : OutputId, x.cutSet.getLsbD o = true → (e.output o).state ≠ .settle) =
      s.tripIdle ch { x with filtered := true, run := 0, changeDue := false } := rfl
  have hexec : exec (.faultTrip ch) s = .next (s.trip ch { x with filtered := true, run := 0, changeDue := false }) := by
    refine congrArg Host.Outcome.next ((if_pos ⟨hrun, hdue, hf, hst⟩).trans ?_)
    obtain ⟨-, -, h⟩ | ⟨-, h, -⟩ | ⟨h, -⟩ := levelChange_cases s ch
    · rw [h, hf]; rfl
    · exact absurd (hf.symm.trans h) (by decide)
    · exact absurd ⟨hst, hf⟩ h
  have hset : ({ x with filtered := true, run := 0, changeDue := false } : FaultChannel).cutSet = x.cutSet := rfl
  have hlast : ({ x with filtered := true, run := 0, changeDue := false, tripCount := x.tripCount + 1
                         state := if x.tripCount + 1 = x.latchLimit then .latched else .tripped } : FaultChannel) =
      { ({ x with filtered := true, run := 0, changeDue := false } : FaultChannel) with
        tripCount := x.tripCount + 1, state := if x.tripCount + 1 = x.latchLimit then .latched else .tripped } := rfl
  have hends : ∀ i, i ∈ s.tripEnds x.cutSet ↔ s.cutLease x.cutSet i = true := fun i => mem_tripEnds (x := x)
  generalize hz : ({ x with filtered := true, run := 0, changeDue := false } : FaultChannel) = z at *
  obtain ⟨b, hb, hbidle⟩ := trip_whole s ch z
  have hfaults : (s.tripCut ch z).faults = s.faults.set ch { z with
      tripCount := z.tripCount + 1, state := if z.tripCount + 1 = z.latchLimit then .latched else .tripped } := rfl
  have hspares : Spares (s.tripCut ch z) (m.reviewIf b) := by rw [hm]; exact (notify_spares ..).trans (reviewIf_spares ..)
  have hslot : ∀ i, m.slot i = (s.tripCut ch z).slot i := fun i => by
    rw [hm]; exact State.slot_congr (notify_slots ..) i
  have hwait : ∀ i, m.waitingAt i = s.waitingAt i := fun i => by
    rw [← State.waitingAt_tripCut s ch z, State.waitingAt, State.leaseAt, hslot, ← State.leaseAt, ← State.waitingAt]
  refine ⟨m.reviewIf b, by rw [hexec, hb, hm], ?review, (tripCut_keeps s ch z).trans hspares.toKeeps, ?faults, ?entries,
    fun i l hl hlive hcut => ?ended, fun i hno hw => ?other, fun i hw => ?waits, fun o ho => ⟨?cut, ?cutBy⟩,
    fun o ho => ?uncut, fun hopen => ?notice⟩
  case review =>
    by_cases h : ends = [] ∧ ∀ o : OutputId, x.cutSet.getLsbD o = true → (e.output o).state ≠ .settle
    · rw [if_pos h, hbidle.mpr (hidle ▸ h)]; rfl
    · have hb' : b = true := by
        rw [← Bool.not_eq_false, hbidle, ← hidle]; exact h
      rw [if_neg h, hb']; rfl
  case faults => rw [hspares.faults, hfaults, hlast, ← hz]
  case entries =>
    refine reviewIf_keeps (P := fun t => ∀ e ∈ t.expiry, e.key ≠ .recover ch ∧ e.key ≠ .quiet ch)
      (fun hg ht e he => ⟨fun hk => ?_, fun hk => ?_⟩) b fun e he => ?_
    · obtain rfl | ⟨hin, -⟩ := (hg.mem_expiry (by rw [hk]; rfl)).mp he
      · simp at hk
      · exact (ht e hin).1 hk
    · obtain rfl | ⟨hin, -⟩ := (hg.mem_expiry (by rw [hk]; rfl)).mp he
      · simp at hk
      · exact (ht e hin).2 hk
    · rw [hm, notify_expiry] at he
      cases hk : e.key with
      | settle o => simp
      | _ => rw [← hk]; exact mem_tripCut_of_not_settle (by rw [hk]; rfl) he
  case ended =>
    have hin : i ∈ s.tripEnds z.cutSet := by
      rw [hset, hends]; exact State.cutLease_iff.mpr ⟨l, hl, hlive, hcut⟩
    have hw : m.waitingAt i = false := by
      rw [hwait, State.waitingAt_eq, hl, Option.any_some]
      cases hp : l.phase <;> simp [hp, Phase.isLive, Phase.isWaiting] at hlive ⊢
    rw [State.slot_reviewIf_of_not_waiting hw, hslot, State.slot_tripCut, if_pos hin, hl, Option.map_some,
      Lease.afterEnd_active (.inr hlive)]
  case other =>
    have hin : i ∉ s.tripEnds z.cutSet := by rw [hset, hends, hno]; simp
    rw [State.slot_reviewIf_of_not_waiting (by rw [hwait, hw]), hslot, State.slot_tripCut, if_neg hin]
  case waits =>
    have hin : i ∉ s.tripEnds z.cutSet := by
      rw [hset, hends]
      intro hcut
      obtain ⟨l, hl, hlive, -⟩ := State.cutLease_iff.mp hcut
      obtain ⟨l', hl', hw'⟩ := State.waitingAt_iff.mp hw
      obtain rfl := Option.some.inj (hl.symm.trans hl')
      rw [Phase.not_live_of_waiting hw'] at hlive
      exact absurd hlive (by decide)
    refine (m.slot_reviewIf b i).imp (fun h => ?_) And.right
    rw [h, hslot, State.slot_tripCut, if_neg hin]
  case cut =>
    refine reviewIf_keeps (P := fun t => (t.output o).state = .cut) (fun hg ht => (hg.state o).1 ht) b ?_
    have hout : m.output o = (s.tripCut ch z).output o := by rw [hm, State.output, notify_outputs, State.output]
    rw [hout, State.output_tripCut, State.tripOutput, hset, if_pos ho]
    rfl
  case cutBy => rw [hspares.cutBy, cutBy_tripCut, hset, if_pos ho]
  case uncut => rw [hspares.cutBy, cutBy_tripCut, hset, ho]; rfl
  case notice =>
    refine reviewIf_keeps (P := fun t => (t.session 0).notices &&& Notice.bit .fault ≠ 0) (fun hg ht => ?_) b ?_
    · rw [hg.sessions]
      split
      · exact noticeSet_or_and_ne_zero ht
      · exact ht
    · have hopen' : (s.tripCut ch z).isOpen 0 = true := by
        rw [State.isOpen, (tripCut_keeps s ch z).opened]; exact hopen
      rw [hm, State.session_notify, if_pos ⟨rfl, hopen'⟩]
      exact noticeSet_or_bit _ _

end Sys2Proof.Machine
end

section
/-! SUPPORT. The full close of a session (R145): the slots freed, the offers returned to their givers in one update, and what
the close leaves alone. -/

namespace Sys2Proof.Machine

/-! ### The slots it holds, freed (R16) -/

theorem State.generation_freeSlot (s : State) (i j : SlotId) : ((s.freeSlot i).slot j).generation = (s.slot j).generation := by
  rw [State.slot_of_set (freeSlot_slots s i)]
  split
  next h => rw [h]
  next => rfl

theorem State.slot_foldl_freeSlot (L : List SlotId) (s : State) (j : SlotId) :
    (L.foldl State.freeSlot s).slot j = if j ∈ L then ⟨(s.slot j).generation, none⟩ else s.slot j := by
  have hgen : ((L.foldl State.freeSlot s).slot j).generation = (s.slot j).generation := by
    induction L generalizing s with
    | nil => rfl
    | cons i L ih => rw [List.foldl_cons, ih, State.generation_freeSlot]
  rw [← State.slot_eta, hgen, State.leaseAt_foldl_freeSlot]
  split <;> rfl

theorem freeSlot_sessions (s : State) (i : SlotId) : (s.freeSlot i).sessions = s.sessions := by
  cases hl : s.leaseAt i with
  | none => rw [freeSlot_of_none hl]
  | some l => rw [freeSlot_eq hl, closeSlot_sessions]

theorem foldl_freeSlot_sessions (L : List SlotId) (s : State) : (L.foldl State.freeSlot s).sessions = s.sessions := by
  induction L generalizing s with
  | nil => rfl
  | cons i L ih => rw [List.foldl_cons, ih, freeSlot_sessions]

/-! ### Offers returned to their givers (R115) -/

/-- A lease that stands offered to the client, and its giver. -/
theorem State.giverTo_iff {s : State} {c g : Client} {i : SlotId} : s.giverTo c i = some g ↔
    ∃ l ga d od, s.leaseAt i = some l ∧ l.phase = .offered ga d c od ∧ l.holder = g := by
  rw [State.giverTo_eq_some]
  constructor
  · rintro ⟨l, hl, hr, hg⟩
    cases hp : l.phase with
    | offered ga d r od =>
      obtain rfl : r = c := by simpa [hp, Phase.receiver] using hr
      exact ⟨l, ga, d, od, hl, hp, hg⟩
    | _ => simp [hp, Phase.receiver] at hr
  · rintro ⟨l, ga, d, od, hl, hp, hg⟩
    exact ⟨l, hl, by rw [hp]; rfl, hg⟩

/-- A session whose offer in the slot `last` was the last of its offers to be voided. -/
def State.voidedSession (s : State) (g : Client) (last : Option SlotId) : Session :=
  match last with
  | some i => { s.session g with
      outcome := some (s.handleOf i, .voided)
      notices := (s.session g).notices ||| if s.isOpen g then Notice.bit .offerOut else 0 }
  | none => s.session g

section
variable {s : State} {c g : Client} {i : SlotId}

theorem returnOffer_eq (h : s.giverTo c i = some g) :
    returnOffer c s i = (State.setOutcome { s with
      slots := s.slots.set i ⟨(s.slot i).generation, (s.leaseAt i).map Lease.returned⟩
      expiry := removeEntry (.offer i) s.expiry } g (s.handleOf i) .voided).notify g .offerOut := by
  obtain ⟨l, ga, d, od, hl, hp, rfl⟩ := State.giverTo_iff.mp h
  rw [returnOffer_of_some h, resolveOffer_of_offered hl hp, hl, Option.map_some, Lease.returned, hp]
  rfl

theorem returnOffer_expiry (h : s.giverTo c i = some g) : (returnOffer c s i).expiry = removeEntry (.offer i) s.expiry := by
  rw [returnOffer_eq h, notify_expiry, State.setOutcome_expiry]

theorem State.session_returnOffer (h : s.giverTo c i = some g) (d : Client) :
    (returnOffer c s i).session d = if d = g then s.voidedSession g (some i) else s.session d := by
  rw [returnOffer_eq h, State.session_notify, State.isOpen_setOutcome]
  have hopen : State.isOpen { s with
      slots := s.slots.set i ⟨(s.slot i).generation, (s.leaseAt i).map Lease.returned⟩
      expiry := removeEntry (.offer i) s.expiry } g = s.isOpen g := rfl
  have hset : ∀ d, (State.setOutcome { s with
      slots := s.slots.set i ⟨(s.slot i).generation, (s.leaseAt i).map Lease.returned⟩
      expiry := removeEntry (.offer i) s.expiry } g (s.handleOf i) .voided).session d =
      if g = d then { s.session g with outcome := some (s.handleOf i, .voided) } else s.session d := fun d =>
    State.session_putSession _ g d _
  rw [hopen, hset, hset, if_pos rfl]
  by_cases hd : d = g
  · subst hd
    cases ho : s.isOpen d <;> simp [State.voidedSession, ho]
  · simp [hd, Ne.symm hd]

theorem State.generation_returnOffer (s : State) (c : Client) (i j : SlotId) :
    ((returnOffer c s i).slot j).generation = (s.slot j).generation := by
  cases h : s.giverTo c i with
  | none => rw [returnOffer_of_none h]
  | some g =>
    rw [returnOffer_eq h, State.slot_congr (notify_slots ..),
      State.slot_of_set (s := s) (i := i) (x := ⟨(s.slot i).generation, (s.leaseAt i).map Lease.returned⟩) rfl]
    split
    next hij => rw [hij]
    next => rfl

theorem returnOffer_frame (s : State) (c : Client) (i : SlotId) : returnOffer c s i = { s with
    slots := (returnOffer c s i).slots, expiry := (returnOffer c s i).expiry
    sessions := (returnOffer c s i).sessions, atnLow := (returnOffer c s i).atnLow } := by
  cases h : s.giverTo c i with
  | none => rw [returnOffer_of_none h]
  | some g =>
    rw [returnOffer_eq h]
    have hframe := notify_frame (State.setOutcome { s with
      slots := s.slots.set i ⟨(s.slot i).generation, (s.leaseAt i).map Lease.returned⟩
      expiry := removeEntry (.offer i) s.expiry } g (s.handleOf i) .voided) g .offerOut
    rw [hframe]
    rfl

end

section
variable (c : Client) {L : List SlotId} (s : State)

theorem foldl_returnOffer_frame (L : List SlotId) : L.foldl (returnOffer c) s = { s with
    slots := (L.foldl (returnOffer c) s).slots, expiry := (L.foldl (returnOffer c) s).expiry
    sessions := (L.foldl (returnOffer c) s).sessions, atnLow := (L.foldl (returnOffer c) s).atnLow } := by
  induction L generalizing s with
  | nil => rfl
  | cons i L ih =>
    rw [List.foldl_cons]
    have hrest := ih (returnOffer c s i)
    generalize L.foldl (returnOffer c) (returnOffer c s i) = u at hrest ⊢
    rw [hrest, returnOffer_frame s c i]

theorem State.slot_foldl_returnOffer (hL : L.Nodup) (j : SlotId) : (L.foldl (returnOffer c) s).slot j =
    if j ∈ L ∧ s.giverTo c j ≠ none then ⟨(s.slot j).generation, (s.leaseAt j).map Lease.returned⟩ else s.slot j := by
  have hgen : ((L.foldl (returnOffer c) s).slot j).generation = (s.slot j).generation := by
    clear hL
    induction L generalizing s with
    | nil => rfl
    | cons i L ih => rw [List.foldl_cons, ih, State.generation_returnOffer]
  rw [← State.slot_eta, hgen, State.leaseAt_foldl_returnOffer c hL]
  split <;> rfl

/-- The givers seen by the rest of a list after one of its offers is returned. -/
theorem State.giverTo_returnOffer_of_ne {i j : SlotId} (h : i ≠ j) : (returnOffer c s i).giverTo c j = s.giverTo c j :=
  State.giverTo_congr (by rw [State.leaseAt_returnOffer, if_neg fun hij => h hij.1]) c

theorem foldl_returnOffer_expiry (hL : L.Nodup) : (L.foldl (returnOffer c) s).expiry =
    s.expiry.filter fun e => ∀ i ∈ L, s.giverTo c i ≠ none → e.key ≠ .offer i := by
  induction L generalizing s with
  | nil => simp
  | cons i L ih =>
    obtain ⟨hi, hL⟩ := List.nodup_cons.mp hL
    have hrest : ∀ j ∈ L, (returnOffer c s i).giverTo c j = s.giverTo c j := fun j hj =>
      s.giverTo_returnOffer_of_ne c (by rintro rfl; exact hi hj)
    have hone : (returnOffer c s i).expiry = s.expiry.filter fun e => s.giverTo c i ≠ none → e.key ≠ .offer i := by
      cases h : s.giverTo c i with
      | none => rw [returnOffer_of_none h]; simp
      | some g => rw [returnOffer_expiry h, removeEntry]; simp
    rw [List.foldl_cons, ih _ hL, hone, List.filter_filter]
    refine List.filter_congr fun e _ => ?_
    rw [Bool.eq_iff_iff, Bool.and_eq_true, decide_eq_true_eq, decide_eq_true_eq, decide_eq_true_eq, List.forall_mem_cons,
      and_comm]
    exact and_congr_right fun _ => forall₂_congr fun j hj => by rw [hrest j hj]

theorem State.session_foldl_returnOffer (hL : L.Nodup) (g : Client) : (L.foldl (returnOffer c) s).session g =
    s.voidedSession g (L.filter fun i => s.giverTo c i = some g).getLast? := by
  induction L generalizing s with
  | nil => rfl
  | cons i L ih =>
    obtain ⟨hi, hL⟩ := List.nodup_cons.mp hL
    have hrest : (L.filter fun j => (returnOffer c s i).giverTo c j = some g) = L.filter fun j => s.giverTo c j = some g :=
      List.filter_congr fun j hj => by rw [s.giverTo_returnOffer_of_ne c (by rintro rfl; exact hi hj)]
    have hhandle : ∀ j, (returnOffer c s i).handleOf j = s.handleOf j := fun j => by
      rw [State.handleOf, State.generation_returnOffer, State.handleOf]
    have hopen : (returnOffer c s i).isOpen g = s.isOpen g := by
      rw [State.isOpen, (returnOffer_spares c s i).opened, State.isOpen]
    rw [List.foldl_cons, ih _ hL, hrest]
    cases h : s.giverTo c i with
    | none => rw [returnOffer_of_none h, List.filter_cons_of_neg (by simp [h])]
    | some g' =>
      by_cases hg : g' = g
      · subst hg
        rw [List.filter_cons_of_pos (by simp [h])]
        have hses := State.session_returnOffer h g'
        rw [if_pos rfl] at hses
        cases hF : L.filter fun j => s.giverTo c j = some g' with
        | nil => exact hses
        | cons j F =>
          rw [List.getLast?_cons_cons]
          cases hlast : (j :: F).getLast? with
          | none => simp at hlast
          | some k =>
            simp only [State.voidedSession, hhandle, hopen, hses]
            cases s.isOpen g' <;> simp [BitVec.or_assoc]
      · have hses := State.session_returnOffer h g
        rw [if_neg (Ne.symm hg)] at hses
        rw [List.filter_cons_of_neg (by simp [h, hg])]
        cases (L.filter fun j => s.giverTo c j = some g).getLast? with
        | none => exact hses
        | some k => simp only [State.voidedSession, hhandle, hopen, hses]

end

/-! ### The last of the slots with a property -/

/-- The highest number with a property is the last of those that have it. -/
theorem getLast?_filter_finRange {n : Nat} {p : Fin n → Bool} {i : Fin n} (hi : p i = true)
    (hmax : ∀ j, i < j → p j = false) : ((List.finRange n).filter p).getLast? = some i := by
  have hsorted : ((List.finRange n).filter p).Pairwise (· < ·) := (List.sortedLT_finRange n).pairwise.filter p
  have hmem : i ∈ (List.finRange n).filter p := List.mem_filter.mpr ⟨List.mem_finRange i, hi⟩
  obtain ⟨L, k, hL⟩ := (List.eq_nil_or_concat ((List.finRange n).filter p)).resolve_left (List.ne_nil_of_mem hmem)
  rw [hL, List.concat_eq_append] at hsorted hmem ⊢
  have hk : p k = true := (List.mem_filter.mp (show k ∈ (List.finRange n).filter p by rw [hL]; simp)).2
  have hik : i = k := by
    by_contra hne
    have hin : i ∈ L := by simpa [hne] using hmem
    have hlt : i < k := (List.pairwise_append.mp hsorted).2.2 i hin k (by simp)
    exact absurd ((hmax k hlt).symm.trans hk) (by decide)
  rw [hik]
  simp

/-! ### The full close -/

/-- A full close once the slots the session holds are freed. -/
def State.closeFreed (s : State) (c : Client) : State := ((List.finRange 32).filter (s.heldBy c)).foldl State.freeSlot s

section
variable (s : State) (c : Client)

theorem closeBase_eq : s.closeBase c = (List.finRange 32).foldl (returnOffer c) (s.closeFreed c) := rfl

theorem State.slot_closeFreed (i : SlotId) :
    (s.closeFreed c).slot i = if s.heldBy c i = true then ⟨(s.slot i).generation, none⟩ else s.slot i := by
  rw [State.closeFreed, State.slot_foldl_freeSlot]
  exact if_congr (by simp) rfl rfl

theorem State.session_closeFreed (d : Client) : (s.closeFreed c).session d = s.session d := by
  rw [State.session, State.closeFreed, foldl_freeSlot_sessions, State.session]

theorem State.handleOf_closeFreed (i : SlotId) : (s.closeFreed c).handleOf i = s.handleOf i := by
  rw [State.handleOf, State.slot_closeFreed, State.handleOf]
  split <;> rfl

/-- A lease offered to the session by another survives the freeing of the session's own. -/
theorem State.giverTo_closeFreed (i : SlotId) :
    (s.closeFreed c).giverTo c i = if s.heldBy c i = true then none else s.giverTo c i := by
  by_cases h : s.heldBy c i = true
  · rw [if_pos h, State.giverTo, State.leaseAt, State.slot_closeFreed, if_pos h]
  · rw [if_neg h]
    exact State.giverTo_congr (by rw [State.leaseAt, State.slot_closeFreed, if_neg h, State.leaseAt]) c

/-- The slots of a full close before its review: those held are FREE, those offered are back with their givers. -/
theorem State.slot_closeBase (i : SlotId) : (s.closeBase c).slot i =
    if s.heldBy c i = true then ⟨(s.slot i).generation, none⟩
    else if s.giverTo c i ≠ none then ⟨(s.slot i).generation, (s.leaseAt i).map Lease.returned⟩ else s.slot i := by
  rw [closeBase_eq, State.slot_foldl_returnOffer c _ (List.nodup_finRange 32), State.leaseAt, State.slot_closeFreed,
    State.giverTo_closeFreed]
  by_cases h : s.heldBy c i = true
  · simp [h]
  · simp only [if_neg h, List.mem_finRange, true_and]
    rfl

theorem State.waitingAt_closeBase (i : SlotId) :
    (s.closeBase c).waitingAt i = (!s.heldBy c i && s.waitingAt i) := by
  rw [State.waitingAt_eq, State.leaseAt, State.slot_closeBase, State.waitingAt_eq]
  by_cases h : s.heldBy c i = true
  · rw [if_pos h, h]; rfl
  · rw [if_neg h, Bool.eq_false_iff.mpr h]
    split
    · cases s.leaseAt i with
      | none => rfl
      | some l => simp [(Lease.returned_keeps l).2.2.2.2.1]
    · simp [State.leaseAt]

theorem State.session_closeBase (g : Client) : (s.closeBase c).session g =
    s.voidedSession g ((List.finRange 32).filter fun i => (s.closeFreed c).giverTo c i = some g).getLast? := by
  have hopen : (s.closeFreed c).isOpen g = s.isOpen g := by rw [State.isOpen, State.session_closeFreed, State.isOpen]
  rw [closeBase_eq, State.session_foldl_returnOffer c _ (List.nodup_finRange 32)]
  cases ((List.finRange 32).filter fun i => (s.closeFreed c).giverTo c i = some g).getLast? <;>
    simp only [State.voidedSession, State.session_closeFreed, State.handleOf_closeFreed, hopen]

/-- A giver's session names its highest-numbered lease among those offered (R116). -/
theorem State.session_closeBase_of_last {g : Client} {i : SlotId} (hg : g ≠ c) (hi : s.giverTo c i = some g)
    (hmax : ∀ j, i < j → s.giverTo c j ≠ some g) : (s.closeBase c).session g = s.voidedSession g (some i) := by
  have hfreed : ∀ j, (s.closeFreed c).giverTo c j = some g ↔ s.giverTo c j = some g := fun j => by
    rw [State.giverTo_closeFreed]
    by_cases h : s.heldBy c j = true
    · rw [if_pos h]
      simp only [reduceCtorEq, false_iff]
      intro hj
      obtain ⟨l, -, -, -, hl, -, rfl⟩ := State.giverTo_iff.mp hj
      obtain ⟨l', hl', rfl⟩ := State.heldBy_iff.mp h
      exact hg (by rw [Option.some.inj (hl.symm.trans hl')])
    · rw [if_neg h]
  rw [State.session_closeBase, getLast?_filter_finRange (i := i) (by simpa [hfreed] using hi)]
  intro j hj
  simpa [hfreed] using hmax j hj

/-- The session's record once it is closed (R145). -/
def Session.closed (x : Session) : Session := { x with opened := none, notices := 0, mask := 0x3F, outcome := none }

theorem State.session_closedRecord (g : Client) : ((s.closeBase c).closeRecord c).session g =
    if g = c then (s.session c).closed else (s.closeBase c).session g := by
  rw [State.session_closeRecord]
  by_cases h : g = c
  · rw [if_pos h, if_pos h, State.session_closeBase]
    cases ((List.finRange 32).filter fun i => (s.closeFreed c).giverTo c i = some c).getLast? <;> rfl
  · rw [if_neg h, if_neg h]

end

theorem closeRecord_slots (s : State) (c : Client) : (s.closeRecord c).slots = s.slots := rfl

/-- Closing the record moves the sessions and ATN alone. -/
theorem closeRecord_spares_but_sessions (s : State) (c : Client) : Spares s { s.closeRecord c with sessions := s.sessions } :=
  .of_eq ⟨rfl, rfl, rfl, rfl, rfl, rfl, rfl, rfl, rfl, rfl⟩

theorem State.waitingAt_congr {s t : State} (h : t.slots = s.slots) (i : SlotId) : t.waitingAt i = s.waitingAt i := by
  rw [State.waitingAt, State.leaseAt, State.slot_congr h, ← State.leaseAt, ← State.waitingAt]

/-- The full close before its review, in one update of the state whose slots are freed. -/
theorem closeRecord_closeBase (s : State) (c : Client) {A : Vector Slot 32} {E : List Entry} {V : Vector Session 8}
    (hA : (s.closeBase c).slots = A) (hE : (s.closeBase c).expiry = E)
    (hV : ((s.closeBase c).closeRecord c).sessions = V) :
    (s.closeBase c).closeRecord c =
      State.updateAtn { s.closeFreed c with slots := A, expiry := E, sessions := V } := by
  have hframe := foldl_returnOffer_frame c (s.closeFreed c) (List.finRange 32)
  rw [← closeBase_eq] at hframe
  generalize s.closeBase c = B at hframe hA hE hV ⊢
  subst hA hE hV
  have hatn : (B.closeRecord c).atnLow = State.attention { s.closeFreed c with
      slots := B.slots, expiry := B.expiry, sessions := (B.closeRecord c).sessions } := State.attention_congr rfl
  have hclose : B.closeRecord c = { B with sessions := (B.closeRecord c).sessions, atnLow := (B.closeRecord c).atnLow } := rfl
  rw [State.updateAtn, ← hatn]
  generalize (B.closeRecord c).sessions = V at hclose ⊢
  generalize (B.closeRecord c).atnLow = a at hclose ⊢
  rw [hclose, hframe]

theorem closeFull_activeOf {s : State} {c : Client} :
    (List.finRange 32).any (s.activeOf c) = true ↔ ∃ i, s.activeOf c i = true := by
  simp [List.any_eq_true]

/-- Settles O13: the close in one update, and what its review leaves alone. -/
theorem fullCloseLeavesNothingHeld : Obligations.FullCloseLeavesNothingHeld := by
  unfold Obligations.FullCloseLeavesNothingHeld
  intro s c t freed closed
  have hclosed : closed = (s.closeBase c).closeRecord c := by
    refine (closeRecord_closeBase s c ?_ ?_ ?_).symm
    · refine Vector.eq_ofFn fun i => ?_
      have hslot := State.slot_foldl_returnOffer c (s.closeFreed c) (List.nodup_finRange 32) i
      refine hslot.trans ?_
      have hgen : ((s.closeFreed c).slot i).generation = (s.slot i).generation := by
        rw [State.slot_closeFreed]; split <;> rfl
      rw [hgen]
      have hfreed : freed = s.closeFreed c := rfl
      rw [hfreed]
      cases hl : (s.closeFreed c).leaseAt i with
      | none => simp [State.giverTo, hl]
      | some l =>
        cases hp : l.phase with
        | offered ga d r od =>
          by_cases hr : r = c
          · subst hr; simp [State.giverTo, hl, hp, Lease.returned]
          · simp [State.giverTo, hl, hp, hr]
        | _ => simp [State.giverTo, hl, hp]
    · refine (foldl_returnOffer_expiry c (s.closeFreed c) (List.nodup_finRange 32)).trans ?_
      refine List.filter_congr fun e _ => ?_
      simp only [List.mem_finRange, forall_const]
      rfl
    · refine Vector.eq_ofFn fun g => (State.session_closedRecord s c g).trans ?_
      by_cases hg : g = c
      · rw [if_pos hg, if_pos hg]; rfl
      · rw [if_neg hg, if_neg hg, State.session_closeBase]
        have hfilter : ((List.finRange 32).filter fun i => (s.closeFreed c).giverTo c i = some g) =
            (List.finRange 32).filter fun i => freed.giverTo c i = some g := rfl
        rw [hfilter]
        cases ((List.finRange 32).filter fun i => freed.giverTo c i = some g).getLast? <;> rfl
  have ht : t = closed.reviewIf ((List.finRange 32).any (s.activeOf c)) := by rw [hclosed]; rfl
  have hbase : Spares s (s.closeBase c) := closeBase_spares s c
  have hasked : (List.finRange 32).any (s.activeOf c) = true ↔ ∃ i, s.activeOf c i = true := closeFull_activeOf
  clear_value t freed closed
  generalize (List.finRange 32).any (s.activeOf c) = asked at ht hasked
  have hlast : Spares closed t := by rw [ht]; exact reviewIf_spares ..
  have hslot : ∀ i, closed.slot i = (s.closeBase c).slot i := fun i => by
    rw [hclosed]; exact State.slot_congr (closeRecord_slots _ c) i
  have hwait : ∀ i, closed.waitingAt i = (!s.heldBy c i && s.waitingAt i) := fun i => by
    rw [hclosed, ← State.waitingAt_closeBase]; exact State.waitingAt_congr (closeRecord_slots _ c) i
  have hsession : ∀ g, closed.session g = if g = c then (s.session c).closed else (s.closeBase c).session g := fun g => by
    rw [hclosed, State.session_closedRecord]
  have hkept : ∀ i, closed.waitingAt i = false → t.slot i = (s.closeBase c).slot i := fun i hw => by
    rw [ht, State.slot_reviewIf_of_not_waiting hw, hslot]
  have hnotice : ∀ {P : Session → Prop} (g : Client), (∀ x n, P x → P { x with notices := x.notices ||| n }) →
      P (closed.session g) → P (t.session g) := by
    intro P g hP h
    rw [ht]
    refine reviewIf_keeps (P := fun u => P (u.session g)) (fun hgr hu => ?_) _ h
    rw [hgr.sessions]
    split
    · exact hP _ _ hu
    · exact hu
  refine ⟨?whole, ?self, fun i hi => ?held, fun i l ga d od hl hne hp => ?offered, fun i hi hg hw => ?other,
    fun i hi hw => ?waits, fun g i hne hg hmax => ?givers, fun hnone i hi hg => ?quiet, ?_⟩
  case whole =>
    rw [ht]
    by_cases h : ∃ i, s.activeOf c i = true
    · rw [if_pos h, hasked.mpr h]; rfl
    · rw [if_neg h, Bool.eq_false_iff.mpr (mt hasked.mp h)]; rfl
  case self =>
    rw [ht]
    refine reviewIf_keeps (P := fun u => u.session c = (s.session c).closed) (fun hgr hu => ?_) _ (by rw [hsession, if_pos rfl])
    rw [hgr.sessions, if_neg, hu]
    rintro ⟨-, hopen⟩
    rw [State.isOpen, hu] at hopen
    simp [Session.closed] at hopen
  case held => rw [hkept i (by rw [hwait, hi]; rfl), State.slot_closeBase, if_pos hi]
  case offered =>
    have hfree : s.heldBy c i = false := by
      rw [Bool.eq_false_iff]
      intro h
      obtain ⟨l', hl', hh⟩ := State.heldBy_iff.mp h
      exact hne (by rw [Option.some.inj (hl.symm.trans hl')]; exact hh)
    have hgiver : s.giverTo c i ≠ none := by
      rw [State.giverTo_iff.mpr ⟨l, ga, d, od, hl, hp, rfl⟩]; simp
    have hw : s.waitingAt i = false := by rw [State.waitingAt_eq, hl, Option.any_some, hp]; rfl
    rw [hkept i (by rw [hwait, hw, Bool.and_false]), State.slot_closeBase, hfree, if_neg (by decide), if_pos hgiver, hl,
      Option.map_some, Lease.returned, hp]
  case other =>
    rw [hkept i (by rw [hwait, hw, Bool.and_false]), State.slot_closeBase, hi, if_neg (by decide), if_neg (by simp [hg])]
  case waits =>
    have hg : s.giverTo c i = none := by
      obtain ⟨l, hl, hw'⟩ := State.waitingAt_iff.mp hw
      cases hg : s.giverTo c i with
      | none => rfl
      | some g =>
        obtain ⟨l', ga, d, od, hl', hp, -⟩ := State.giverTo_iff.mp hg
        rw [Option.some.inj (hl.symm.trans hl'), hp] at hw'
        simp [Phase.isWaiting] at hw'
    rw [ht]
    refine (State.slot_reviewIf _ _ i).imp (fun h => ?_) And.right
    rw [h, hslot, State.slot_closeBase, hi, if_neg (by decide), if_neg (by simp [hg])]
  case givers =>
    have hses : closed.session g = s.voidedSession g (some i) := by
      rw [hsession, if_neg hne, State.session_closeBase_of_last s c hne hg hmax]
    refine ⟨hnotice (P := fun x => x.outcome = some (s.handleOf i, .voided)) g (fun _ _ h => h) (by rw [hses]; rfl), fun ho => ?_⟩
    refine hnotice (P := fun x => x.notices &&& Notice.bit .offerOut ≠ 0) g (fun _ _ h => noticeSet_or_and_ne_zero h) ?_
    rw [hses]
    simp only [State.voidedSession, ho, if_true]
    exact noticeSet_or_bit _ _
  case quiet =>
    have hany : asked = false := by
      rw [Bool.eq_false_iff]
      intro h
      obtain ⟨j, hj⟩ := hasked.mp h
      exact absurd ((hnone j).symm.trans hj) (by decide)
    rw [ht, hany]
    show closed.slot i = s.slot i
    rw [hslot, State.slot_closeBase, hi, if_neg (by decide), if_neg (by simp [hg])]
  obtain ⟨V, hfields⟩ : ∃ V, Spares (s.closeBase c) { closed with sessions := V } := by
    rw [hclosed]
    exact ⟨_, closeRecord_spares_but_sessions _ c⟩
  have hall := hbase.trans hfields
  have hother : ∀ d, d ≠ c → closed.session d = (s.closeBase c).session d := fun d hd => by rw [hsession, if_neg hd]
  refine ⟨hlast.power.trans hall.power, hlast.pins.trans hall.pins, hlast.pending.trans hall.pending,
    hlast.clock.trans hall.clock, hlast.mode.trans hall.mode, hlast.counts.trans hall.counts, hlast.faults.trans hall.faults,
    hlast.link.trans hall.link, fun d hd => ?_, fun o => ?_⟩
  · rw [hlast.opened, hlast.epoch, hlast.response, hlast.quota, hlast.mask, hother d hd]
    exact ⟨hbase.opened d, hbase.epoch d, hbase.response d, hbase.quota d, hbase.mask d⟩
  · exact ⟨(hlast.maxTerm o).trans (hall.maxTerm o), (hlast.gap o).trans (hall.gap o), (hlast.drive o).trans (hall.drive o),
      (hlast.cutBy o).trans (hall.cutBy o), (hlast.partners o).trans (hall.partners o)⟩

end Sys2Proof.Machine
end

section
/-! SUPPORT. Ends of a list of waiting and live leases seen on the outputs, the wait queue and the sessions,
as HALT makes them. -/

namespace Sys2Proof.Machine

/-! ### One end, seen on the sessions (R12, R114) -/

section
variable {s : State} {i : SlotId} {l : Lease}

theorem State.session_endLease (hl : s.leaseAt i = some l) (ha : l.phase.isWaiting = true ∨ l.phase.isLive = true)
    (why : EndReason) (d : Option FaultId) (c : Client) : (s.endLease i why d).session c =
      if c = l.holder then
        { s.session c with
          notices := if s.isOpen c then (s.session c).notices ||| Notice.bit .ended |||
            (if l.phase.offerDeadline.isSome then Notice.bit .offerOut else 0) else (s.session c).notices
          outcome := if l.phase.offerDeadline.isSome then some (s.handleOf i, .voided) else (s.session c).outcome }
      else s.session c := by
  rw [endLease_eq hl ha, State.session_tellEnd, State.session_congr (closeSlot_sessions ..),
    State.isOpen_congr (closeSlot_sessions ..)]

/-- A pending notice stays pending through the end of any lease. -/
theorem endLease_keeps_notice (s : State) (i : SlotId) (why : EndReason) (d : Option FaultId) {c : Client} {k : NoticeSet}
    (h : (s.session c).notices &&& k ≠ 0) : ((s.endLease i why d).session c).notices &&& k ≠ 0 := by
  by_cases ha : ∃ l, s.leaseAt i = some l ∧ (l.phase.isWaiting = true ∨ l.phase.isLive = true)
  · obtain ⟨l, hl, ha⟩ := ha
    rw [State.session_endLease hl ha]
    by_cases hc : c = l.holder
    · rw [if_pos hc]
      dsimp only
      split
      · exact noticeSet_or_and_ne_zero (noticeSet_or_and_ne_zero h)
      · exact h
    · rw [if_neg hc]; exact h
  · rwa [endLease_of_inactive fun l hl => by simpa using fun h => ha ⟨l, hl, h⟩]

/-- The end of a lease keeps ATN up to date (R152). -/
theorem endLease_atn (s : State) (i : SlotId) (why : EndReason) (d : Option FaultId) (h : s.atnLow = s.attention) :
    (s.endLease i why d).atnLow = (s.endLease i why d).attention := by
  by_cases ha : ∃ l, s.leaseAt i = some l ∧ (l.phase.isWaiting = true ∨ l.phase.isLive = true)
  · obtain ⟨l, hl, ha⟩ := ha
    have hatn : (s.endLease i why d).atnLow =
        if s.isOpen l.holder then (s.endLease i why d).attention else s.atnLow := by
      rw [endLease_eq hl ha, State.atnLow_tellEnd, State.isOpen_congr (closeSlot_sessions ..), closeSlot_atnLow]
    rw [hatn]
    cases ho : s.isOpen l.holder with
    | true => rfl
    | false =>
      rw [if_neg (by decide), h]
      refine (State.attention_of_calls fun c => ?_).symm
      rw [State.session_endLease hl ha]
      by_cases hc : c = l.holder
      · subst hc
        rw [if_pos rfl, ho]
        rfl
      · rw [if_neg hc]
  · rwa [endLease_of_inactive fun l hl => by simpa using fun h => ha ⟨l, hl, h⟩]

end

/-! ### The ends of a list, seen on the sessions -/

section
variable (why : EndReason) (d : Option FaultId)

theorem foldl_endLease_keeps_notice (L : List SlotId) {s : State} {c : Client} {k : NoticeSet}
    (h : (s.session c).notices &&& k ≠ 0) :
    ((L.foldl (fun u i => u.endLease i why d) s).session c).notices &&& k ≠ 0 := by
  induction L generalizing s with
  | nil => exact h
  | cons i L ih => exact ih (endLease_keeps_notice s i why d h)

theorem foldl_endLease_atn (L : List SlotId) {s : State} (h : s.atnLow = s.attention) :
    (L.foldl (fun u i => u.endLease i why d) s).atnLow = (L.foldl (fun u i => u.endLease i why d) s).attention := by
  induction L generalizing s with
  | nil => exact h
  | cons i L ih => exact ih (endLease_atn s i why d h)

/-- A session with no offer among the leases that end keeps its outcome (R116). -/
theorem outcome_foldl_endLease_of_none {L : List SlotId} (hL : L.Nodup) {s : State} {g : Client}
    (h : ∀ i ∈ L, s.heldBy g i = true → s.offeredAt i = false) :
    ((L.foldl (fun u i => u.endLease i why d) s).session g).outcome = (s.session g).outcome := by
  induction L generalizing s with
  | nil => rfl
  | cons i L ih =>
    obtain ⟨hi, hL⟩ := List.nodup_cons.mp hL
    have hlease : ∀ j ∈ L, (s.endLease i why d).leaseAt j = s.leaseAt j := fun j hj => by
      rw [s.leaseAt_endLease, if_neg (by rintro rfl; exact hi hj)]
    have hrest : ∀ j ∈ L, (s.endLease i why d).heldBy g j = true → (s.endLease i why d).offeredAt j = false := by
      intro j hj hheld
      rw [State.offeredAt_eq, hlease j hj, ← State.offeredAt_eq]
      refine h j (List.mem_cons_of_mem _ hj) (State.heldBy_iff.mpr ?_)
      rw [← hlease j hj]
      exact State.heldBy_iff.mp hheld
    rw [List.foldl_cons, ih hL hrest]
    by_cases ha : ∃ l, s.leaseAt i = some l ∧ (l.phase.isWaiting = true ∨ l.phase.isLive = true)
    · obtain ⟨l, hl, ha⟩ := ha
      rw [State.session_endLease hl ha]
      by_cases hc : g = l.holder
      · have hno := h i List.mem_cons_self (State.heldBy_iff.mpr ⟨l, hl, hc.symm⟩)
        have hnone : l.phase.offerDeadline.isSome = false := by
          rw [State.offeredAt_eq, hl] at hno; simpa using hno
        rw [if_pos hc, hnone]
        rfl
      · rw [if_neg hc]
    · rw [endLease_of_inactive fun l hl => by simpa using fun h => ha ⟨l, hl, h⟩]

/-- The leases ahead of slot `i` in a list end first, and leave its lease, its handle and its holder's session OPEN or not. -/
theorem foldl_endLease_before {A : List SlotId} {s : State} {i : SlotId} (hi : i ∉ A) :
    (A.foldl (fun u i => u.endLease i why d) s).leaseAt i = s.leaseAt i ∧
      (A.foldl (fun u i => u.endLease i why d) s).handleOf i = s.handleOf i ∧
      ∀ c, (A.foldl (fun u i => u.endLease i why d) s).isOpen c = s.isOpen c := by
  have hslot : (A.foldl (fun u i => u.endLease i why d) s).slot i = s.slot i := by
    induction A generalizing s with
    | nil => rfl
    | cons j A ih =>
      obtain ⟨hj, hA⟩ : i ≠ j ∧ i ∉ A := by simpa using hi
      rw [List.foldl_cons, ih hA, State.slot_of_set (endLease_slots ..), if_neg (Ne.symm hj)]
  refine ⟨by rw [State.leaseAt, hslot, State.leaseAt], by rw [State.handleOf, hslot, State.handleOf], fun c => ?_⟩
  rw [State.isOpen, (foldl_endLease_spares why d A s).opened, State.isOpen]

/-- The holder of a lease that ends has ENDED pending, while OPEN (R12). -/
theorem ended_foldl_endLease {L : List SlotId} (hL : L.Nodup) {s : State} {i : SlotId} {l : Lease} (hi : i ∈ L)
    (hl : s.leaseAt i = some l) (ha : l.phase.isWaiting = true ∨ l.phase.isLive = true) (hopen : s.isOpen l.holder = true) :
    ((L.foldl (fun u i => u.endLease i why d) s).session l.holder).notices &&& Notice.bit .ended ≠ 0 := by
  obtain ⟨A, B, rfl⟩ := List.append_of_mem hi
  have hA : i ∉ A := fun h => (List.nodup_append.mp hL).2.2 i h i List.mem_cons_self rfl
  obtain ⟨hlease, -, hop⟩ := foldl_endLease_before why d (s := s) hA
  rw [List.foldl_append, List.foldl_cons]
  refine foldl_endLease_keeps_notice why d B ?_
  rw [State.session_endLease (hlease.trans hl) ha, if_pos rfl]
  dsimp only
  rw [hop, hopen, if_pos rfl]
  exact noticeSet_or_and_ne_zero (noticeSet_or_bit _ _)

/-- The last of a giver's offers to end names its outcome, with OFFER_OUT while the giver is OPEN (R114, R116). -/
theorem outcome_foldl_endLease {A B : List SlotId} {i : SlotId} (hL : (A ++ i :: B).Nodup) {s : State} {l : Lease}
    (hl : s.leaseAt i = some l) (hoff : s.offeredAt i = true)
    (hlast : ∀ j ∈ B, s.heldBy l.holder j = true → s.offeredAt j = false) :
    (((A ++ i :: B).foldl (fun u i => u.endLease i why d) s).session l.holder).outcome = some (s.handleOf i, .voided) ∧
    (s.isOpen l.holder = true →
      (((A ++ i :: B).foldl (fun u i => u.endLease i why d) s).session l.holder).notices &&& Notice.bit .offerOut ≠ 0) := by
  have hA : i ∉ A := fun h => (List.nodup_append.mp hL).2.2 i h i List.mem_cons_self rfl
  obtain ⟨hB, hBnd⟩ := List.nodup_cons.mp (List.nodup_append.mp hL).2.1
  obtain ⟨hlease, hhandle, hop⟩ := foldl_endLease_before why d (s := s) hA
  have hsome : l.phase.offerDeadline.isSome = true := by rw [State.offeredAt_eq, hl] at hoff; simpa using hoff
  have ha : l.phase.isWaiting = true ∨ l.phase.isLive = true := by
    cases hp : l.phase <;> simp [hp, Phase.offerDeadline, Phase.isLive] at hsome ⊢
  have hone := State.session_endLease (hlease.trans hl) ha why d l.holder
  rw [if_pos rfl, hsome, if_pos rfl, if_pos rfl, hop, hhandle] at hone
  rw [List.foldl_append, List.foldl_cons]
  refine ⟨?_, fun hopen => foldl_endLease_keeps_notice why d B ?_⟩
  · rw [outcome_foldl_endLease_of_none why d hBnd, hone]
    intro j hj hheld
    have hne : i ≠ j := by rintro rfl; exact hB hj
    have hjA : j ∉ A := fun h => (List.nodup_append.mp hL).2.2 j h j (List.mem_cons_of_mem _ hj) rfl
    have hsame : (State.endLease (A.foldl (fun u i => u.endLease i why d) s) i why d).leaseAt j = s.leaseAt j := by
      rw [State.leaseAt_endLease, if_neg hne, (foldl_endLease_before why d hjA).1]
    rw [State.offeredAt_eq, hsame, ← State.offeredAt_eq]
    refine hlast j hj (State.heldBy_iff.mpr ?_)
    rw [← hsame]
    exact State.heldBy_iff.mp hheld
  · rw [hone]
    dsimp only
    rw [hopen, if_pos rfl]
    exact noticeSet_or_bit _ _

/-- Ends of every waiting request empty the wait queue (R12). -/
theorem foldl_endLease_waitQueue {L : List SlotId} (hL : L.Nodup) {s : State} (hq : s.waitQueue = L)
    (hw : ∀ i ∈ L, s.waitingAt i = true) : (L.foldl (fun u i => u.endLease i why d) s).waitQueue = [] := by
  induction L generalizing s with
  | nil => exact hq
  | cons i L ih =>
    obtain ⟨hi, hL⟩ := List.nodup_cons.mp hL
    obtain ⟨l, hl, hwait⟩ := State.waitingAt_iff.mp (hw i List.mem_cons_self)
    refine ih hL ?_ fun j hj => ?_
    · show (s.endLease i why d).waitQueue = L
      rw [endLease_eq hl (.inl hwait), tellEnd_waitQueue, closeSlot_waitQueue, if_pos hwait, hq, List.erase_cons_head]
    · have hne : i ≠ j := by rintro rfl; exact hi hj
      show (s.endLease i why d).waitingAt j = true
      rw [State.waitingAt_endLease, hw j (List.mem_cons_of_mem _ hj)]
      simpa using hne

end

/-! ### Outputs through ends in a row (R33) -/

theorem outputSet_all (o : OutputId) : (BitVec.allOnes 8).getLsbD o = true := by
  rw [BitVec.getLsbD_allOnes]
  exact decide_eq_true o.isLt

/-- An output that has lost its holders stays as it fell. -/
theorem Output.follow_false_fallen (x : Output) : Output.follow { x with state := x.follow false } false = x.follow false := by
  cases hx : x.state with
  | on =>
    simp only [Output.follow, hx, Bool.false_eq_true, if_false]
    by_cases hgap : 0 < x.gap ∧ x.partners ≠ 0
    · simp only [if_pos hgap]
    · simp only [if_neg hgap]
  | _ => simp [Output.follow, hx]

/-- On a state whose ON outputs are those held, every output follows its holders as it stands. -/
theorem OutputsFollow.self {s : State} (h : s.OutputLaw) : OutputsFollow s s (BitVec.allOnes 8) where
  outputs o := by
    have hon := (h o).1
    have hstate : (s.output o).follow (s.held o) = (s.output o).state := by
      cases hs : (s.output o).state <;> cases hh : s.held o <;> simp [hs, hh, Output.follow] at hon ⊢
    rw [if_pos (outputSet_all o), hstate]
  lines o := (if_pos rfl).symm
  settles o e _ := by cases hs : (s.output o).state <;> simp

section
variable {s u v : State} {S : OutputSet} (h : OutputsFollow s u (BitVec.allOnes 8))
  (hon : ∀ o, u.held o = true → (s.output o).state = .on) (k : OutputsFollow u v S)
  (hless : ∀ o, v.held o = true → u.held o = true) (hrest : ∀ o : OutputId, S.getLsbD o = false → v.held o = u.held o)
include h hon k hless hrest

/-- As holders only go, an output falls in the first of two runs of ends, or in the second, or not at all. -/
theorem OutputsFollow.output_cases (o : OutputId) : (v.output o = u.output o ∧ v.held o = u.held o) ∨
    (u.output o = s.output o ∧ v.output o = { s.output o with state := (s.output o).follow (v.held o) }) := by
  have hu : u.output o = { s.output o with state := (s.output o).follow (u.held o) } := by
    rw [h.outputs, if_pos (outputSet_all o)]
  have hv := k.outputs o
  cases hS : S.getLsbD o with
  | false => exact .inl ⟨by rw [hv, hS]; rfl, hrest o hS⟩
  | true =>
    rw [hS, if_pos rfl] at hv
    cases hh : u.held o with
    | true =>
      have hsame : u.output o = s.output o := by
        rw [hu, hh]
        have hstate := hon o hh
        cases hx : s.output o
        simp_all [Output.follow]
      exact .inr ⟨hsame, by rw [hv, hsame]⟩
    | false =>
      have hvh : v.held o = false := Bool.eq_false_iff.mpr fun hc => absurd (hh.symm.trans (hless o hc)) (by decide)
      have hfollow : (u.output o).follow false = (u.output o).state := by rw [hu, hh]; exact Output.follow_false_fallen _
      exact .inl ⟨by rw [hv, hvh, hfollow], hvh⟩

/-- Outputs that follow their holders from `s` to `u` and then, as holders only go, from `u` to `v`, follow them from `s` to
`v`. -/
theorem OutputsFollow.then_falls (hclock : u.clock = s.clock) : OutputsFollow s v (BitVec.allOnes 8) := by
  have hcases := h.output_cases hon k hless hrest
  refine ⟨fun o => ?_, fun o => ?_, fun o e he => ?_⟩
  · rw [if_pos (outputSet_all o)]
    obtain ⟨hsame, hheld⟩ | ⟨-, hv⟩ := hcases o
    · rw [hsame, hheld, h.outputs, if_pos (outputSet_all o)]
    · exact hv
  · rw [k.lines]
    obtain ⟨hsame, -⟩ | ⟨hsame, -⟩ := hcases o
    · rw [hsame, if_pos rfl, h.lines]
    · rw [h.lines, if_pos (show (u.output o).state = (s.output o).state by rw [hsame]), hsame]
  · rw [k.settles o e he, h.settles o e he, hclock]
    obtain ⟨hsame, -⟩ | ⟨hsame, -⟩ := hcases o
    · rw [hsame]
      cases (u.output o).state <;> simp
    · rw [hsame]
      cases (s.output o).state <;> simp

end

theorem State.held_endLease_of (s : State) (i : SlotId) (why : EndReason) (d : Option FaultId) {o : OutputId}
    (h : (s.endLease i why d).held o = true) : s.held o = true := by
  obtain ⟨j, hj⟩ := State.held_iff.mp h
  obtain ⟨l, hl, hlive, hlo⟩ := State.slotHolds_iff.mp hj
  rw [State.leaseAt_endLease] at hl
  split at hl
  next =>
    obtain ⟨m, -, rfl⟩ := Option.map_eq_some_iff.mp hl
    simp [(m.afterEnd_inactive why s.clock d).2] at hlive
  next => exact State.held_iff.mpr ⟨j, State.slotHolds_iff.mpr ⟨l, hl, hlive, hlo⟩⟩

/-- The end of a lease takes no holder from the outputs it did not hold. -/
theorem State.held_endLease_of_not_held {s : State} {i : SlotId} {l : Lease} (hl : s.leaseAt i = some l) (why : EndReason)
    (d : Option FaultId) {o : OutputId} (ho : l.heldOutputs.getLsbD o = false) :
    (s.endLease i why d).held o = s.held o := by
  refine Bool.eq_iff_iff.mpr ⟨State.held_endLease_of s i why d, fun h => ?_⟩
  obtain ⟨j, hj⟩ := State.held_iff.mp h
  obtain ⟨m, hm, hlive, hmo⟩ := State.slotHolds_iff.mp hj
  have hne : i ≠ j := by
    rintro rfl
    obtain rfl := Option.some.inj (hl.symm.trans hm)
    exact absurd ((Lease.heldOutputs_iff.mpr ⟨hlive, hmo⟩).symm.trans ho) (by decide)
  refine State.held_iff.mpr ⟨j, State.slotHolds_iff.mpr ⟨m, ?_, hlive, hmo⟩⟩
  rw [State.leaseAt_endLease, if_neg hne, hm]

/-- Through the ends of a list every output follows its holders (R33). -/
theorem foldl_endLease_follow (why : EndReason) (d : Option FaultId) (L : List SlotId) {s u : State} (hclock : u.clock = s.clock)
    (h : OutputsFollow s u (BitVec.allOnes 8)) (hon : ∀ o, u.held o = true → (s.output o).state = .on) :
    OutputsFollow s (L.foldl (fun u i => u.endLease i why d) u) (BitVec.allOnes 8) := by
  induction L generalizing u with
  | nil => exact h
  | cons i L ih =>
    by_cases ha : ∃ l, u.leaseAt i = some l ∧ (l.phase.isWaiting = true ∨ l.phase.isLive = true)
    · obtain ⟨l, hl, ha⟩ := ha
      have hend := (endingALease u i l why d hl ha).2.1
      refine ih ?_ ?_ fun o ho => hon o (State.held_endLease_of u i why d ho)
      · rw [(endLease_spares ..).clock, hclock]
      · exact h.then_falls hon hend (fun o => State.held_endLease_of u i why d)
          (fun o ho => State.held_endLease_of_not_held hl why d ho) hclock
    · have hsame := endLease_of_inactive (s := u) (i := i) (why := why) (detail := d)
        fun l hl => by simpa using fun h => ha ⟨l, hl, h⟩
      rw [List.foldl_cons, hsame]
      exact ih hclock h hon

end Sys2Proof.Machine
end

section
/-! SUPPORT. HALT (R159, R160): the waiting requests and the live leases it ends, and all that it does. -/

namespace Sys2Proof.Machine

/-- The slots HALT ends, in its order: the waiting requests from head to tail, then the live leases in ascending slot order. -/
def State.haltEnds (s : State) : List SlotId := s.waitQueue ++ (List.finRange 32).filter s.liveAt

/-- The state once HALT has ended them. -/
def State.halted (s : State) : State := s.haltEnds.foldl (fun u i => u.endLease i .halted none) s

/-- The state HALT leaves: its ends in a row, the mode and MODE. -/
def State.haltDone (s : State) : State := State.notifyMode { s.halted with mode := .setup }

theorem State.halted_eq (s : State) :
    s.halted = (s.haltAll s.waitQueue).haltAll ((List.finRange 32).filter s.liveAt) := by
  rw [State.halted, State.haltEnds, List.foldl_append, State.haltAll, State.haltAll]

theorem State.halted_spares (s : State) : Spares s s.halted := foldl_endLease_spares ..

theorem State.not_live_of_waitingAt {s : State} {i : SlotId} (h : s.waitingAt i = true) : s.liveAt i = false := by
  obtain ⟨l, hl, hw⟩ := State.waitingAt_iff.mp h
  rw [State.liveAt_eq, hl, Option.any_some, Phase.not_live_of_waiting hw]

/-- An OFFERED lease is live. -/
theorem State.live_of_offeredAt {s : State} {i : SlotId} (h : s.offeredAt i = true) : s.liveAt i = true := by
  rw [State.offeredAt_eq] at h
  rw [State.liveAt_eq]
  cases hl : s.leaseAt i with
  | none => simp [hl] at h
  | some l =>
    rw [hl] at h
    rw [Option.any_some] at h ⊢
    cases hp : l.phase <;> simp [hp, Phase.offerDeadline, Phase.isLive] at h ⊢

theorem State.not_offered_of_waitingAt {s : State} {i : SlotId} (h : s.waitingAt i = true) : s.offeredAt i = false :=
  Bool.eq_false_iff.mpr fun ho =>
    absurd ((State.not_live_of_waitingAt h).symm.trans (State.live_of_offeredAt ho)) (by decide)

section
variable {s : State} (hq : s.QueueLaw)
include hq

theorem mem_haltEnds {i : SlotId} : i ∈ s.haltEnds ↔ s.waitingAt i = true ∨ s.liveAt i = true := by
  simp [State.haltEnds, hq.1 i]

theorem haltEnds_nodup : s.haltEnds.Nodup := by
  refine List.nodup_append.mpr ⟨hq.2.1, (List.nodup_finRange 32).filter _, fun i hi j hj hij => ?_⟩
  subst hij
  have hlive : s.liveAt i = true := (List.mem_filter.mp hj).2
  exact absurd ((State.not_live_of_waitingAt ((hq.1 i).mp hi)).symm.trans hlive) (by decide)

/-- The wait queue is as long as there are waiting slots (R56). -/
theorem waitQueue_length : s.waitQueue.length = (List.finRange 32).countP s.waitingAt := by
  have hperm : s.waitQueue.Perm ((List.finRange 32).filter s.waitingAt) :=
    (List.perm_ext_iff_of_nodup hq.2.1 ((List.nodup_finRange 32).filter _)).mpr fun i => by simp [hq.1 i]
  rw [hperm.length_eq, List.countP_eq_length_filter]

/-- What HALT computes: its ends in a row, the mode and MODE, with the two counts. -/
theorem haltBody_run (hrun : s.mode = .run) (c : Client) (p : List Byte) :
    haltBody c p s = (s.haltDone,
      .ok [byte ((List.finRange 32).countP s.waitingAt), byte ((List.finRange 32).countP s.liveAt)]) := by
  have hlive : (List.finRange 32).filter (s.haltAll s.waitQueue).liveAt = (List.finRange 32).filter s.liveAt := by
    refine List.filter_congr fun i _ => ?_
    rw [State.liveAt_haltAll]
    by_cases hi : i ∈ s.waitQueue
    · rw [State.not_live_of_waitingAt ((hq.1 i).mp hi), Bool.and_false]
    · simp [hi]
  rw [haltBody, hrun]
  dsimp only
  rw [hlive, ← State.halted_eq, State.haltDone, waitQueue_length hq, List.countP_eq_length_filter (p := s.liveAt)]

theorem halted_waitQueue : s.halted.waitQueue = [] := by
  have hempty : (s.haltAll s.waitQueue).waitQueue = [] :=
    foldl_endLease_waitQueue .halted none hq.2.1 rfl fun i hi => (hq.1 i).mp hi
  have hsub := haltAll_waitQueue_subset ((List.finRange 32).filter s.liveAt) (s.haltAll s.waitQueue)
  rw [hempty] at hsub
  rw [State.halted_eq]
  exact List.subset_nil.mp hsub

theorem State.slot_halted (i : SlotId) : s.halted.slot i =
    if s.waitingAt i = true ∨ s.liveAt i = true then
      ⟨(s.slot i).generation, (s.leaseAt i).map fun l => l.afterEnd .halted s.clock none⟩ else s.slot i := by
  rw [State.halted, State.slot_foldl_endLease _ _ (haltEnds_nodup hq)]
  exact if_congr (mem_haltEnds hq) rfl rfl

theorem held_halted (o : OutputId) : s.halted.held o = false := by
  rw [State.held_eq_false]
  intro i
  rw [Bool.eq_false_iff]
  intro hh
  obtain ⟨l, hl, hlive, -⟩ := State.slotHolds_iff.mp hh
  rw [State.leaseAt, State.slot_halted hq] at hl
  split at hl
  next =>
    obtain ⟨m, -, rfl⟩ := Option.map_eq_some_iff.mp hl
    simp [(m.afterEnd_inactive .halted s.clock none).2] at hlive
  next hn => exact hn (.inr (by rw [State.liveAt_eq, State.leaseAt, hl]; exact hlive))

end

/-- An OFFERED lease stands in the order of ends behind the offers of lower slots, and no other is offered behind it. -/
theorem haltEnds_split {s : State} {g : Client} {i : SlotId} (hoff : s.offeredAt i = true)
    (hlast : ∀ j, i < j → s.heldBy g j = true → s.offeredAt j = false) :
    ∃ A B, s.haltEnds = A ++ i :: B ∧ ∀ j ∈ B, s.heldBy g j = true → s.offeredAt j = false := by
  obtain ⟨A, B, hsplit⟩ := List.append_of_mem
    (List.mem_filter.mpr ⟨List.mem_finRange i, State.live_of_offeredAt hoff⟩)
  refine ⟨s.waitQueue ++ A, B, by rw [State.haltEnds, hsplit, List.append_assoc], fun j hj => hlast j ?_⟩
  have hsorted : ((List.finRange 32).filter s.liveAt).Pairwise (· < ·) := (List.sortedLT_finRange 32).pairwise.filter _
  rw [hsplit] at hsorted
  exact (List.pairwise_cons.mp (List.pairwise_append.mp hsorted).2.1).1 j hj

/-! ### MODE, after which nothing else moves -/

theorem State.haltDone_frame (s : State) : s.haltDone =
    { s.halted with mode := .setup, sessions := s.haltDone.sessions, atnLow := s.haltDone.atnLow } :=
  notifyAll_frame .mode _ { s.halted with mode := .setup }

section
variable (s : State)

theorem State.isOpen_halted (c : Client) : s.halted.isOpen c = s.isOpen c := by
  rw [State.isOpen, s.halted_spares.opened, ← State.isOpen]

theorem State.session_haltDone (c : Client) : s.haltDone.session c =
    if c ≠ 0 ∧ s.isOpen c = true then
      { s.halted.session c with notices := (s.halted.session c).notices ||| Notice.bit .mode }
    else s.halted.session c := by
  rw [← s.isOpen_halted c]
  exact State.session_notifyMode { s.halted with mode := .setup } c

/-- MODE leaves a session its outcome, and the notices pending. -/
theorem State.outcome_haltDone (c : Client) : (s.haltDone.session c).outcome = (s.halted.session c).outcome := by
  rw [State.session_haltDone]
  split <;> rfl

theorem State.haltDone_keeps_notice {c : Client} {k : NoticeSet} (h : (s.halted.session c).notices &&& k ≠ 0) :
    (s.haltDone.session c).notices &&& k ≠ 0 := by
  rw [State.session_haltDone]
  split
  · exact noticeSet_or_and_ne_zero h
  · exact h

theorem State.haltDone_lasting (c : Client) : (s.haltDone.session c).opened = (s.session c).opened ∧
    (s.haltDone.session c).epoch = (s.session c).epoch ∧ (s.haltDone.session c).quota = (s.session c).quota ∧
    (s.haltDone.session c).mask = (s.session c).mask := by
  have h := s.halted_spares
  rw [State.session_haltDone, ← h.opened, ← h.epoch, ← h.quota, ← h.mask]
  split <;> exact ⟨rfl, rfl, rfl, rfl⟩

/-- The state HALT leaves, in one update of its ends (R157, R159). -/
theorem State.haltDone_eq (h : s.atnLow = s.attention) : s.haltDone = State.updateAtn { s.halted with
    mode := .setup
    sessions := Vector.ofFn fun c : Client =>
      if c ≠ 0 ∧ s.isOpen c = true then
        { s.halted.session c with notices := (s.halted.session c).notices ||| Notice.bit .mode }
      else s.halted.session c } := by
  have hatn : s.halted.atnLow = s.halted.attention := foldl_endLease_atn .halted none s.haltEnds h
  refine (notifyMode_eq (s := { s.halted with mode := .setup }) hatn).trans ?_
  have hses : (fun c : Client => if c ≠ 0 ∧ s.halted.isOpen c = true then
        { s.halted.session c with notices := (s.halted.session c).notices ||| Notice.bit .mode } else s.halted.session c) =
      fun c : Client => if c ≠ 0 ∧ s.isOpen c = true then
        { s.halted.session c with notices := (s.halted.session c).notices ||| Notice.bit .mode } else s.halted.session c :=
    funext fun c => by rw [s.isOpen_halted c]
  exact congrArg (fun f => State.updateAtn { s.halted with mode := .setup, sessions := Vector.ofFn f }) hses

variable {s}

theorem State.slot_haltDone (i : SlotId) : s.haltDone.slot i = s.halted.slot i := by
  rw [State.haltDone_frame]; rfl

theorem haltDone_follow (hout : s.OutputLaw) : OutputsFollow s s.haltDone (BitVec.allOnes 8) := by
  have h : OutputsFollow s s.halted (BitVec.allOnes 8) :=
    foldl_endLease_follow .halted none s.haltEnds rfl (OutputsFollow.self hout) fun o => (hout o).1.mpr
  refine h.of_eq ?_ ?_ ?_ ?_ <;> rw [State.haltDone_frame]

theorem State.output_haltDone (hq : s.QueueLaw) (hout : s.OutputLaw) (o : OutputId) :
    s.haltDone.output o = { s.output o with state := (s.output o).follow false } := by
  have hheld : s.haltDone.held o = false := by
    rw [← held_halted hq o]
    exact State.held_congr (by rw [State.haltDone_frame]) o
  rw [(haltDone_follow hout).outputs, if_pos (outputSet_all o), hheld]

theorem mem_haltDone_of_not_settle (hq : s.QueueLaw) {e : Entry} (he : e.key.isSettle = false) :
    e ∈ s.haltDone.expiry ↔
      e ∈ s.expiry ∧ ∀ i, s.waitingAt i = true ∨ s.liveAt i = true → e.key.ofSlot i = false := by
  have hends := mem_foldl_endLease_of_not_settle .halted none (haltEnds_nodup hq) (s := s)
    (fun i hi => (mem_haltEnds hq).mp hi) he
  have hsame : s.haltDone.expiry = s.halted.expiry := by rw [State.haltDone_frame]
  rw [hsame]
  refine hends.trans (and_congr_right fun _ => forall_congr' fun i => ?_)
  rw [mem_haltEnds hq]

theorem slot_haltDone_of_active (hq : s.QueueLaw) {i : SlotId} {l : Lease} (hl : s.leaseAt i = some l)
    (ha : s.waitingAt i = true ∨ s.liveAt i = true) : s.haltDone.slot i =
      ⟨(s.slot i).generation, some { l with phase := .ended l.phase.grantedAt .halted s.clock none }⟩ := by
  obtain ⟨m, hm, hact⟩ := State.active_iff.mp ha
  obtain rfl := Option.some.inj (hl.symm.trans hm)
  rw [State.slot_haltDone, State.slot_halted hq, if_pos ha, hl, Option.map_some, Lease.afterEnd_active hact]

theorem slot_haltDone_of_not_active (hq : s.QueueLaw) {i : SlotId} (hw : s.waitingAt i = false) (hl : s.liveAt i = false) :
    s.haltDone.slot i = s.slot i := by
  rw [State.slot_haltDone, State.slot_halted hq, if_neg (by simp [hw, hl])]

end

/-! ### The sessions after HALT -/

section
variable {s : State} (hq : s.QueueLaw)
include hq

theorem ended_haltDone {i : SlotId} {c : Client} (hopen : s.isOpen c = true) (hact : s.activeOf c i = true) :
    (s.haltDone.session c).notices &&& Notice.bit .ended ≠ 0 := by
  obtain ⟨l, hl, rfl, ha⟩ : ∃ l, s.leaseAt i = some l ∧ l.holder = c ∧ (l.phase.isWaiting = true ∨ l.phase.isLive = true) := by
    rw [State.activeOf] at hact
    cases hl : s.leaseAt i with
    | none => simp [hl] at hact
    | some l => exact ⟨l, rfl, by simpa [hl, or_comm] using hact⟩
  refine s.haltDone_keeps_notice (ended_foldl_endLease .halted none (haltEnds_nodup hq) ?_ hl ha hopen)
  exact (mem_haltEnds hq).mpr (State.active_iff.mpr ⟨l, hl, ha⟩)

/-- The giver's highest-numbered offer is the last of its offers to end. -/
theorem voided_haltDone {g : Client} {i : SlotId} (hheld : s.heldBy g i = true) (hoff : s.offeredAt i = true)
    (hlast : ∀ j, i < j → s.heldBy g j = true → s.offeredAt j = false) :
    (s.haltDone.session g).outcome = some (s.handleOf i, .voided) ∧
      (s.isOpen g = true → (s.haltDone.session g).notices &&& Notice.bit .offerOut ≠ 0) := by
  obtain ⟨l, hl, rfl⟩ := State.heldBy_iff.mp hheld
  obtain ⟨A, B, hsplit, hB⟩ := haltEnds_split hoff hlast
  have hends := outcome_foldl_endLease .halted none (hsplit ▸ haltEnds_nodup hq) hl hoff hB
  rw [← hsplit] at hends
  exact ⟨(s.outcome_haltDone _).trans hends.1, fun hopen => s.haltDone_keeps_notice (hends.2 hopen)⟩

theorem outcome_haltDone_of_none {g : Client} (h : ∀ i, s.heldBy g i = true → s.offeredAt i = false) :
    (s.haltDone.session g).outcome = (s.session g).outcome :=
  (s.outcome_haltDone g).trans
    (outcome_foldl_endLease_of_none .halted none (haltEnds_nodup hq) fun i _ => h i)

end

/-- Settles O55: HALT is the ends of its requests and leases in a row, the mode and MODE. -/
theorem haltEndsEverything : Obligations.HaltEndsEverything := by
  unfold Obligations.HaltEndsEverything
  intro s f hin hp
  refine ⟨fun hsetup => ?_, fun hrun hq hout => ⟨s.linkDone.haltDone, ?_, fun hatn => ?_, ?mode, ?queue, ?follow,
    fun i l hl ha => slot_haltDone_of_active (s := s.linkDone) hq hl ha,
    fun i hw hl => slot_haltDone_of_not_active (s := s.linkDone) hq hw hl, State.output_haltDone (s := s.linkDone) hq hout,
    fun e he => mem_haltDone_of_not_settle (s := s.linkDone) hq he, fun c hopen hc => ?notice,
    fun i c hopen hact => ended_haltDone (s := s.linkDone) hq hopen hact,
    fun g i hheld hoff hlast => voided_haltDone (s := s.linkDone) hq hheld hoff hlast,
    fun g h => outcome_haltDone_of_none (s := s.linkDone) hq h, ?clock, ?counts, ?faults, ?link,
    s.linkDone.haltDone_lasting⟩⟩
  · have hsetup' : s.linkDone.mode = .setup := hsetup
    exact completes_of_body_keeps hin rfl rfl (by rw [hp]; rfl) (fun _ => rfl) (by rw [haltBody, hsetup']; rfl)
  · obtain ⟨hopened, hepoch, -⟩ := s.linkDone.haltDone_lasting 0
    have hopen : (s.linkDone.haltDone.session 0).opened.isSome = true := by rw [hopened]; exact hin.isOpen
    have hbody := haltBody_run (s := s.linkDone) hq hrun 0 f.params
    exact congrArg Host.Outcome.next (command_result hin rfl (by rw [hp]; rfl) (fun _ => rfl) hbody hopen hepoch)
  · exact s.linkDone.haltDone_eq hatn
  case mode => rw [State.haltDone_frame]
  case queue => rw [State.haltDone_frame]; exact halted_waitQueue (s := s.linkDone) hq
  case follow =>
    obtain ⟨houtputs, hlines, hsettles⟩ := haltDone_follow (s := s.linkDone) hout
    exact ⟨houtputs, hlines, hsettles⟩
  case notice =>
    rw [State.session_haltDone, if_pos ⟨hc, hopen⟩]
    exact noticeSet_or_bit _ _
  case clock => rw [State.haltDone_frame]; exact s.linkDone.halted_spares.clock
  case counts => rw [State.haltDone_frame]; exact s.linkDone.halted_spares.counts
  case faults => rw [State.haltDone_frame]; exact s.linkDone.halted_spares.faults
  case link => rw [State.haltDone_frame]; exact s.linkDone.halted_spares.link

end Sys2Proof.Machine
end
